-- ==== Sys2Proof/Word.lean ====
section
/-! DEFINITION. The two word types of the hardware: bytes and 16-bit words (00_scope.md R6, R7). -/

namespace Sys2Proof

/-- An 8-bit register, memory byte or immediate (R6, R100). -/
abbrev Byte := BitVec 8

/-- A 16-bit register pair, address, port address or immediate (R6, R200). -/
abbrev Word := BitVec 16

end Sys2Proof
end

