-- ==== Sys2Proof/Machine/Bits.lean ====
section
/-! DEFINITION. Bit-field, byte-order and extension helpers shared by the decoder and the machine
(00_scope.md R7, 10_state.md R101, 20_memory.md R203, R207). -/

namespace Sys2Proof

/-- `h ++ l`: the 16-bit value with `h` in bits 15..8 (R7, R101). -/
def join (h l : Byte) : Word := h ++ l

/-- `v[7:0]`, the byte at the lower address (R203). -/
def lo (v : Word) : Byte := v.extractLsb' 0 8

/-- `v[15:8]`, the byte at the higher address (R203). -/
def hi (v : Word) : Byte := v.extractLsb' 8 8

/-- `sext_16`: a displacement or offset byte as a 16-bit two's-complement value (R7, R310). -/
def sext16 (v : Byte) : Word := v.signExtend 16

/-- `zext_16` (R7). -/
def zext16 (v : Byte) : Word := v.zeroExtend 16

end Sys2Proof
end

