-- ==== Sys2Proof/Syntax.lean ====
section
/-! DEFINITION. The instructions: one constructor per row of spec/opcode_table.json, and the operand types of
30_encoding.md R301 to R304. The constructors with operands come first, each part in the table's order: Lean's
compiler numbers no constructor with operands above 244. In a constructor's name `AtX` is the operand `(X)`, `NN` the
16-bit immediate `nn`, `Cond` the condition `c`, `Rfsh` the refresh register `R`, `AFAlt` the shadow pair `AF'`. -/

namespace Sys2Proof

/-- An 8-bit register operand `r` (R100; table REG8 of R301 without code 6, which is the memory operand `(HL)`). -/
inductive Reg8 where
  | b | c | d | e | h | l | a
  deriving DecidableEq, Repr

/-- A register pair of table RP (R302). -/
inductive Pair where
  | bc | de | hl | sp
  deriving DecidableEq, Repr

/-- A register pair of table RP2 (R302): the operand of PUSH and POP. -/
inductive PairAF where
  | bc | de | hl | af
  deriving DecidableEq, Repr

/-- A register pair of table RP in format XY (R302): code 2 is the index register itself. -/
inductive PairXY where
  | bc | de | xy | sp
  deriving DecidableEq, Repr

/-- A condition (R303, R700). -/
inductive Cond where
  | nz | z | nc | c | po | pe | p | m
  deriving DecidableEq, Repr

/-- The two index registers (R103): `DD` selects `IX`, `FD` selects `IY`. -/
inductive IndexReg where
  | ix | iy
  deriving DecidableEq, Repr

/-- The two halves of an index register (R103). -/
inductive Half where
  | high | low
  deriving DecidableEq, Repr

/-- The instructions. -/
inductive Instr where
  -- Instructions with operands
  -- load, stack and exchange (40_load_exchange.md)
  /-- `LD r,r'` (R401). -/
  | ldRR (t : Reg8) (s : Reg8)
  /-- `LD r,n` (R402). -/
  | ldRN (t : Reg8) (n : Byte)
  /-- `LD r,(HL)` (R403). -/
  | ldRAtHL (t : Reg8)
  /-- `LD (HL),r` (R405). -/
  | ldAtHLR (s : Reg8)
  /-- `LD (HL),n` (R407). -/
  | ldAtHLN (n : Byte)
  /-- `LD r,(IX+d)` (R404). -/
  | ldRAtIXd (t : Reg8) (d : Byte)
  /-- `LD (IX+d),r` (R406). -/
  | ldAtIXdR (d : Byte) (s : Reg8)
  /-- `LD (IX+d),n` (R408). -/
  | ldAtIXdN (d : Byte) (n : Byte)
  /-- `LD r,(IY+d)` (R404). -/
  | ldRAtIYd (t : Reg8) (d : Byte)
  /-- `LD (IY+d),r` (R406). -/
  | ldAtIYdR (d : Byte) (s : Reg8)
  /-- `LD (IY+d),n` (R408). -/
  | ldAtIYdN (d : Byte) (n : Byte)
  /-- `LD A,(nn)` (R410). -/
  | ldAAtNN (nn : Word)
  /-- `LD (nn),A` (R412). -/
  | ldAtNNA (nn : Word)
  /-- `LD r,IXH` (R417). -/
  | ldRIXH (t : Reg8)
  /-- `LD IXH,r` (R417). -/
  | ldIXHR (s : Reg8)
  /-- `LD IXH,n` (R417). -/
  | ldIXHN (n : Byte)
  /-- `LD r,IXL` (R417). -/
  | ldRIXL (t : Reg8)
  /-- `LD IXL,r` (R417). -/
  | ldIXLR (s : Reg8)
  /-- `LD IXL,n` (R417). -/
  | ldIXLN (n : Byte)
  /-- `LD r,IYH` (R417). -/
  | ldRIYH (t : Reg8)
  /-- `LD IYH,r` (R417). -/
  | ldIYHR (s : Reg8)
  /-- `LD IYH,n` (R417). -/
  | ldIYHN (n : Byte)
  /-- `LD r,IYL` (R417). -/
  | ldRIYL (t : Reg8)
  /-- `LD IYL,r` (R417). -/
  | ldIYLR (s : Reg8)
  /-- `LD IYL,n` (R417). -/
  | ldIYLN (n : Byte)
  /-- `LD rr,nn` (R418). -/
  | ldRRNN (q : Pair) (nn : Word)
  /-- `LD HL,(nn)` (R420). -/
  | ldHLAtNN (nn : Word)
  /-- `LD (nn),HL` (R423). -/
  | ldAtNNHL (nn : Word)
  /-- `LD rr,(nn)` (R421). -/
  | ldRRAtNN (q : Pair) (nn : Word)
  /-- `LD (nn),rr` (R424). -/
  | ldAtNNRR (q : Pair) (nn : Word)
  /-- `LD IX,nn` (R419). -/
  | ldIXNN (nn : Word)
  /-- `LD IX,(nn)` (R422). -/
  | ldIXAtNN (nn : Word)
  /-- `LD (nn),IX` (R425). -/
  | ldAtNNIX (nn : Word)
  /-- `LD IY,nn` (R419). -/
  | ldIYNN (nn : Word)
  /-- `LD IY,(nn)` (R422). -/
  | ldIYAtNN (nn : Word)
  /-- `LD (nn),IY` (R425). -/
  | ldAtNNIY (nn : Word)
  /-- `PUSH rr` (R428). -/
  | pushRR (q : PairAF)
  /-- `POP rr` (R431). -/
  | popRR (q : PairAF)
  /-- `PUSH nn` (R430). -/
  | pushNN (nn : Word)
  -- 8-bit arithmetic and logic (41_arith8_logic.md)
  /-- `ADD A,r` (R501). -/
  | addAR (s : Reg8)
  /-- `ADD A,n` (R501). -/
  | addAN (n : Byte)
  /-- `ADD A,(IX+d)` (R501). -/
  | addAAtIXd (d : Byte)
  /-- `ADD A,(IY+d)` (R501). -/
  | addAAtIYd (d : Byte)
  /-- `ADC A,r` (R502). -/
  | adcAR (s : Reg8)
  /-- `ADC A,n` (R502). -/
  | adcAN (n : Byte)
  /-- `ADC A,(IX+d)` (R502). -/
  | adcAAtIXd (d : Byte)
  /-- `ADC A,(IY+d)` (R502). -/
  | adcAAtIYd (d : Byte)
  /-- `SUB r` (R503). -/
  | subR (s : Reg8)
  /-- `SUB n` (R503). -/
  | subN (n : Byte)
  /-- `SUB (IX+d)` (R503). -/
  | subAtIXd (d : Byte)
  /-- `SUB (IY+d)` (R503). -/
  | subAtIYd (d : Byte)
  /-- `SBC A,r` (R504). -/
  | sbcAR (s : Reg8)
  /-- `SBC A,n` (R504). -/
  | sbcAN (n : Byte)
  /-- `SBC A,(IX+d)` (R504). -/
  | sbcAAtIXd (d : Byte)
  /-- `SBC A,(IY+d)` (R504). -/
  | sbcAAtIYd (d : Byte)
  /-- `AND r` (R505). -/
  | andR (s : Reg8)
  /-- `AND n` (R505). -/
  | andN (n : Byte)
  /-- `AND (IX+d)` (R505). -/
  | andAtIXd (d : Byte)
  /-- `AND (IY+d)` (R505). -/
  | andAtIYd (d : Byte)
  /-- `XOR r` (R506). -/
  | xorR (s : Reg8)
  /-- `XOR n` (R506). -/
  | xorN (n : Byte)
  /-- `XOR (IX+d)` (R506). -/
  | xorAtIXd (d : Byte)
  /-- `XOR (IY+d)` (R506). -/
  | xorAtIYd (d : Byte)
  /-- `OR r` (R507). -/
  | orR (s : Reg8)
  /-- `OR n` (R507). -/
  | orN (n : Byte)
  /-- `OR (IX+d)` (R507). -/
  | orAtIXd (d : Byte)
  /-- `OR (IY+d)` (R507). -/
  | orAtIYd (d : Byte)
  /-- `CP r` (R508). -/
  | cpR (s : Reg8)
  /-- `CP n` (R508). -/
  | cpN (n : Byte)
  /-- `CP (IX+d)` (R508). -/
  | cpAtIXd (d : Byte)
  /-- `CP (IY+d)` (R508). -/
  | cpAtIYd (d : Byte)
  /-- `INC r` (R509). -/
  | incR (t : Reg8)
  /-- `INC (IX+d)` (R509). -/
  | incAtIXd (d : Byte)
  /-- `INC (IY+d)` (R509). -/
  | incAtIYd (d : Byte)
  /-- `DEC r` (R510). -/
  | decR (t : Reg8)
  /-- `DEC (IX+d)` (R510). -/
  | decAtIXd (d : Byte)
  /-- `DEC (IY+d)` (R510). -/
  | decAtIYd (d : Byte)
  /-- `TEST n` (R516). -/
  | testN (n : Byte)
  -- 16-bit arithmetic (42_arith16.md)
  /-- `ADD HL,rr` (R550). -/
  | addHLRR (q : Pair)
  /-- `ADD IX,rr` (R551). -/
  | addIXRR (q : PairXY)
  /-- `ADD IY,rr` (R551). -/
  | addIYRR (q : PairXY)
  /-- `ADC HL,rr` (R552). -/
  | adcHLRR (q : Pair)
  /-- `SBC HL,rr` (R553). -/
  | sbcHLRR (q : Pair)
  /-- `INC rr` (R554). -/
  | incRR (q : Pair)
  /-- `DEC rr` (R556). -/
  | decRR (q : Pair)
  /-- `ADD HL,nn` (R559). -/
  | addHLNN (nn : Word)
  /-- `ADD DE,nn` (R559). -/
  | addDENN (nn : Word)
  /-- `ADD BC,nn` (R559). -/
  | addBCNN (nn : Word)
  -- rotates, shifts and bit operations (43_rotate_shift_bit.md)
  /-- `RLC r` (R605). -/
  | rlcR (s : Reg8)
  /-- `RLC (IX+d)` (R605). -/
  | rlcAtIXd (d : Byte)
  /-- `RLC (IX+d),r` (R613). -/
  | rlcAtIXdR (d : Byte) (s : Reg8)
  /-- `RLC (IY+d)` (R605). -/
  | rlcAtIYd (d : Byte)
  /-- `RLC (IY+d),r` (R613). -/
  | rlcAtIYdR (d : Byte) (s : Reg8)
  /-- `RRC r` (R606). -/
  | rrcR (s : Reg8)
  /-- `RRC (IX+d)` (R606). -/
  | rrcAtIXd (d : Byte)
  /-- `RRC (IX+d),r` (R613). -/
  | rrcAtIXdR (d : Byte) (s : Reg8)
  /-- `RRC (IY+d)` (R606). -/
  | rrcAtIYd (d : Byte)
  /-- `RRC (IY+d),r` (R613). -/
  | rrcAtIYdR (d : Byte) (s : Reg8)
  /-- `RL r` (R607). -/
  | rlR (s : Reg8)
  /-- `RL (IX+d)` (R607). -/
  | rlAtIXd (d : Byte)
  /-- `RL (IX+d),r` (R613). -/
  | rlAtIXdR (d : Byte) (s : Reg8)
  /-- `RL (IY+d)` (R607). -/
  | rlAtIYd (d : Byte)
  /-- `RL (IY+d),r` (R613). -/
  | rlAtIYdR (d : Byte) (s : Reg8)
  /-- `RR r` (R608). -/
  | rrR (s : Reg8)
  /-- `RR (IX+d)` (R608). -/
  | rrAtIXd (d : Byte)
  /-- `RR (IX+d),r` (R613). -/
  | rrAtIXdR (d : Byte) (s : Reg8)
  /-- `RR (IY+d)` (R608). -/
  | rrAtIYd (d : Byte)
  /-- `RR (IY+d),r` (R613). -/
  | rrAtIYdR (d : Byte) (s : Reg8)
  /-- `SLA r` (R609). -/
  | slaR (s : Reg8)
  /-- `SLA (IX+d)` (R609). -/
  | slaAtIXd (d : Byte)
  /-- `SLA (IX+d),r` (R613). -/
  | slaAtIXdR (d : Byte) (s : Reg8)
  /-- `SLA (IY+d)` (R609). -/
  | slaAtIYd (d : Byte)
  /-- `SLA (IY+d),r` (R613). -/
  | slaAtIYdR (d : Byte) (s : Reg8)
  /-- `SRA r` (R610). -/
  | sraR (s : Reg8)
  /-- `SRA (IX+d)` (R610). -/
  | sraAtIXd (d : Byte)
  /-- `SRA (IX+d),r` (R613). -/
  | sraAtIXdR (d : Byte) (s : Reg8)
  /-- `SRA (IY+d)` (R610). -/
  | sraAtIYd (d : Byte)
  /-- `SRA (IY+d),r` (R613). -/
  | sraAtIYdR (d : Byte) (s : Reg8)
  /-- `SLI r` (R611). -/
  | sliR (s : Reg8)
  /-- `SLI (IX+d)` (R611). -/
  | sliAtIXd (d : Byte)
  /-- `SLI (IX+d),r` (R613). -/
  | sliAtIXdR (d : Byte) (s : Reg8)
  /-- `SLI (IY+d)` (R611). -/
  | sliAtIYd (d : Byte)
  /-- `SLI (IY+d),r` (R613). -/
  | sliAtIYdR (d : Byte) (s : Reg8)
  /-- `SRL r` (R612). -/
  | srlR (s : Reg8)
  /-- `SRL (IX+d)` (R612). -/
  | srlAtIXd (d : Byte)
  /-- `SRL (IX+d),r` (R613). -/
  | srlAtIXdR (d : Byte) (s : Reg8)
  /-- `SRL (IY+d)` (R612). -/
  | srlAtIYd (d : Byte)
  /-- `SRL (IY+d),r` (R613). -/
  | srlAtIYdR (d : Byte) (s : Reg8)
  /-- `BIT b,r` (R616). -/
  | bitBR (b : BitVec 3) (s : Reg8)
  /-- `BIT b,(HL)` (R616). -/
  | bitBAtHL (b : BitVec 3)
  /-- `RES b,r` (R618). -/
  | resBR (b : BitVec 3) (s : Reg8)
  /-- `RES b,(HL)` (R618). -/
  | resBAtHL (b : BitVec 3)
  /-- `SET b,r` (R617). -/
  | setBR (b : BitVec 3) (s : Reg8)
  /-- `SET b,(HL)` (R617). -/
  | setBAtHL (b : BitVec 3)
  /-- `BIT b,(IX+d)` (R616). -/
  | bitBAtIXd (b : BitVec 3) (d : Byte)
  /-- `RES b,(IX+d)` (R618). -/
  | resBAtIXd (b : BitVec 3) (d : Byte)
  /-- `SET b,(IX+d)` (R617). -/
  | setBAtIXd (b : BitVec 3) (d : Byte)
  /-- `RES b,(IX+d),r` (R619). -/
  | resBAtIXdR (b : BitVec 3) (d : Byte) (s : Reg8)
  /-- `SET b,(IX+d),r` (R619). -/
  | setBAtIXdR (b : BitVec 3) (d : Byte) (s : Reg8)
  /-- `BIT b,(IY+d)` (R616). -/
  | bitBAtIYd (b : BitVec 3) (d : Byte)
  /-- `RES b,(IY+d)` (R618). -/
  | resBAtIYd (b : BitVec 3) (d : Byte)
  /-- `SET b,(IY+d)` (R617). -/
  | setBAtIYd (b : BitVec 3) (d : Byte)
  /-- `RES b,(IY+d),r` (R619). -/
  | resBAtIYdR (b : BitVec 3) (d : Byte) (s : Reg8)
  /-- `SET b,(IY+d),r` (R619). -/
  | setBAtIYdR (b : BitVec 3) (d : Byte) (s : Reg8)
  -- control transfer (44_control_transfer.md)
  /-- `JP nn` (R701). -/
  | jpNN (nn : Word)
  /-- `JP c,nn` (R702). -/
  | jpCondNN (cc : Cond) (nn : Word)
  /-- `JR e` (R706). -/
  | jrE (e : Byte)
  /-- `JR c,e` (R707). -/
  | jrCondE (cc : Cond) (e : Byte)
  /-- `DJNZ e` (R708). -/
  | djnzE (e : Byte)
  /-- `CALL nn` (R709). -/
  | callNN (nn : Word)
  /-- `CALL c,nn` (R710). -/
  | callCondNN (cc : Cond) (nn : Word)
  /-- `RET c` (R712). -/
  | retCond (cc : Cond)
  /-- `RST n` (R713). -/
  | rstN (v : BitVec 3)
  -- input and output (46_io.md)
  /-- `IN A,(n)` (R800). -/
  | inAAtN (n : Byte)
  /-- `IN r,(C)` (R801). -/
  | inRAtC (t : Reg8)
  /-- `OUT (n),A` (R803). -/
  | outAtNA (n : Byte)
  /-- `OUT (C),r` (R804). -/
  | outAtCR (t : Reg8)
  /-- `NEXTREG n,n'` (R815). -/
  | nextregNN (g : Byte) (n : Byte)
  /-- `NEXTREG n,A` (R816). -/
  | nextregNA (g : Byte)
  -- Instructions without operands
  -- load, stack and exchange (40_load_exchange.md)
  /-- `LD A,(BC)` (R409). -/
  | ldAAtBC
  /-- `LD A,(DE)` (R409). -/
  | ldAAtDE
  /-- `LD (BC),A` (R411). -/
  | ldAtBCA
  /-- `LD (DE),A` (R411). -/
  | ldAtDEA
  /-- `LD A,I` (R413). -/
  | ldAI
  /-- `LD A,R` (R414). -/
  | ldARfsh
  /-- `LD I,A` (R415). -/
  | ldIA
  /-- `LD R,A` (R416). -/
  | ldRfshA
  /-- `LD IXH,IXH` (R417). -/
  | ldIXHIXH
  /-- `LD IXH,IXL` (R417). -/
  | ldIXHIXL
  /-- `LD IXL,IXH` (R417). -/
  | ldIXLIXH
  /-- `LD IXL,IXL` (R417). -/
  | ldIXLIXL
  /-- `LD IYH,IYH` (R417). -/
  | ldIYHIYH
  /-- `LD IYH,IYL` (R417). -/
  | ldIYHIYL
  /-- `LD IYL,IYH` (R417). -/
  | ldIYLIYH
  /-- `LD IYL,IYL` (R417). -/
  | ldIYLIYL
  /-- `LD SP,HL` (R426). -/
  | ldSPHL
  /-- `LD SP,IX` (R427). -/
  | ldSPIX
  /-- `LD SP,IY` (R427). -/
  | ldSPIY
  /-- `PUSH IX` (R429). -/
  | pushIX
  /-- `POP IX` (R432). -/
  | popIX
  /-- `PUSH IY` (R429). -/
  | pushIY
  /-- `POP IY` (R432). -/
  | popIY
  /-- `EX AF,AF'` (R433). -/
  | exAFAFAlt
  /-- `EX DE,HL` (R434). -/
  | exDEHL
  /-- `EX (SP),HL` (R435). -/
  | exAtSPHL
  /-- `EX (SP),IX` (R436). -/
  | exAtSPIX
  /-- `EX (SP),IY` (R436). -/
  | exAtSPIY
  /-- `EXX` (R437). -/
  | exx
  -- 8-bit arithmetic and logic (41_arith8_logic.md)
  /-- `ADD A,(HL)` (R501). -/
  | addAAtHL
  /-- `ADD A,IXH` (R501). -/
  | addAIXH
  /-- `ADD A,IXL` (R501). -/
  | addAIXL
  /-- `ADD A,IYH` (R501). -/
  | addAIYH
  /-- `ADD A,IYL` (R501). -/
  | addAIYL
  /-- `ADC A,(HL)` (R502). -/
  | adcAAtHL
  /-- `ADC A,IXH` (R502). -/
  | adcAIXH
  /-- `ADC A,IXL` (R502). -/
  | adcAIXL
  /-- `ADC A,IYH` (R502). -/
  | adcAIYH
  /-- `ADC A,IYL` (R502). -/
  | adcAIYL
  /-- `SUB (HL)` (R503). -/
  | subAtHL
  /-- `SUB IXH` (R503). -/
  | subIXH
  /-- `SUB IXL` (R503). -/
  | subIXL
  /-- `SUB IYH` (R503). -/
  | subIYH
  /-- `SUB IYL` (R503). -/
  | subIYL
  /-- `SBC A,(HL)` (R504). -/
  | sbcAAtHL
  /-- `SBC A,IXH` (R504). -/
  | sbcAIXH
  /-- `SBC A,IXL` (R504). -/
  | sbcAIXL
  /-- `SBC A,IYH` (R504). -/
  | sbcAIYH
  /-- `SBC A,IYL` (R504). -/
  | sbcAIYL
  /-- `AND (HL)` (R505). -/
  | andAtHL
  /-- `AND IXH` (R505). -/
  | andIXH
  /-- `AND IXL` (R505). -/
  | andIXL
  /-- `AND IYH` (R505). -/
  | andIYH
  /-- `AND IYL` (R505). -/
  | andIYL
  /-- `XOR (HL)` (R506). -/
  | xorAtHL
  /-- `XOR IXH` (R506). -/
  | xorIXH
  /-- `XOR IXL` (R506). -/
  | xorIXL
  /-- `XOR IYH` (R506). -/
  | xorIYH
  /-- `XOR IYL` (R506). -/
  | xorIYL
  /-- `OR (HL)` (R507). -/
  | orAtHL
  /-- `OR IXH` (R507). -/
  | orIXH
  /-- `OR IXL` (R507). -/
  | orIXL
  /-- `OR IYH` (R507). -/
  | orIYH
  /-- `OR IYL` (R507). -/
  | orIYL
  /-- `CP (HL)` (R508). -/
  | cpAtHL
  /-- `CP IXH` (R508). -/
  | cpIXH
  /-- `CP IXL` (R508). -/
  | cpIXL
  /-- `CP IYH` (R508). -/
  | cpIYH
  /-- `CP IYL` (R508). -/
  | cpIYL
  /-- `INC (HL)` (R509). -/
  | incAtHL
  /-- `INC IXH` (R509). -/
  | incIXH
  /-- `INC IXL` (R509). -/
  | incIXL
  /-- `INC IYH` (R509). -/
  | incIYH
  /-- `INC IYL` (R509). -/
  | incIYL
  /-- `DEC (HL)` (R510). -/
  | decAtHL
  /-- `DEC IXH` (R510). -/
  | decIXH
  /-- `DEC IXL` (R510). -/
  | decIXL
  /-- `DEC IYH` (R510). -/
  | decIYH
  /-- `DEC IYL` (R510). -/
  | decIYL
  /-- `DAA` (R511). -/
  | daa
  /-- `CPL` (R512). -/
  | cpl
  /-- `NEG` (R513). -/
  | neg
  /-- `CCF` (R514). -/
  | ccf
  /-- `SCF` (R515). -/
  | scf
  -- 16-bit arithmetic (42_arith16.md)
  /-- `INC IX` (R555). -/
  | incIX
  /-- `DEC IX` (R557). -/
  | decIX
  /-- `INC IY` (R555). -/
  | incIY
  /-- `DEC IY` (R557). -/
  | decIY
  /-- `ADD HL,A` (R558). -/
  | addHLA
  /-- `ADD DE,A` (R558). -/
  | addDEA
  /-- `ADD BC,A` (R558). -/
  | addBCA
  /-- `MUL D,E` (R560). -/
  | mulDE
  -- rotates, shifts and bit operations (43_rotate_shift_bit.md)
  /-- `RLCA` (R600). -/
  | rlca
  /-- `RLA` (R601). -/
  | rla
  /-- `RRCA` (R602). -/
  | rrca
  /-- `RRA` (R603). -/
  | rra
  /-- `RLC (HL)` (R605). -/
  | rlcAtHL
  /-- `RRC (HL)` (R606). -/
  | rrcAtHL
  /-- `RL (HL)` (R607). -/
  | rlAtHL
  /-- `RR (HL)` (R608). -/
  | rrAtHL
  /-- `SLA (HL)` (R609). -/
  | slaAtHL
  /-- `SRA (HL)` (R610). -/
  | sraAtHL
  /-- `SLI (HL)` (R611). -/
  | sliAtHL
  /-- `SRL (HL)` (R612). -/
  | srlAtHL
  /-- `RLD` (R614). -/
  | rld
  /-- `RRD` (R615). -/
  | rrd
  /-- `BSLA DE,B` (R620). -/
  | bslaDEB
  /-- `BSRA DE,B` (R621). -/
  | bsraDEB
  /-- `BSRL DE,B` (R622). -/
  | bsrlDEB
  /-- `BSRF DE,B` (R623). -/
  | bsrfDEB
  /-- `BRLC DE,B` (R624). -/
  | brlcDEB
  /-- `MIRROR A` (R625). -/
  | mirrorA
  /-- `SWAPNIB` (R626). -/
  | swapnib
  /-- `SETAE` (R627). -/
  | setae
  -- control transfer (44_control_transfer.md)
  /-- `JP (HL)` (R703). -/
  | jpAtHL
  /-- `JP (IX)` (R704). -/
  | jpAtIX
  /-- `JP (IY)` (R704). -/
  | jpAtIY
  /-- `JP (C)` (R705). -/
  | jpAtC
  /-- `RET` (R711). -/
  | ret
  -- block transfer and search (45_block.md)
  /-- `LDI` (R750). -/
  | ldi
  /-- `LDIR` (R751). -/
  | ldir
  /-- `LDD` (R752). -/
  | ldd
  /-- `LDDR` (R753). -/
  | lddr
  /-- `CPI` (R754). -/
  | cpi
  /-- `CPIR` (R755). -/
  | cpir
  /-- `CPD` (R756). -/
  | cpd
  /-- `CPDR` (R757). -/
  | cpdr
  /-- `LDIX` (R759). -/
  | ldix
  /-- `LDIRX` (R760). -/
  | ldirx
  /-- `LDDX` (R761). -/
  | lddx
  /-- `LDDRX` (R762). -/
  | lddrx
  /-- `LDPIRX` (R763). -/
  | ldpirx
  /-- `LDWS` (R764). -/
  | ldws
  -- input and output (46_io.md)
  /-- `IN (C)` (R802). -/
  | inAtC
  /-- `OUT (C),0` (R805). -/
  | outAtCZero
  /-- `INI` (R806). -/
  | ini
  /-- `INIR` (R807). -/
  | inir
  /-- `IND` (R808). -/
  | ind
  /-- `INDR` (R809). -/
  | indr
  /-- `OUTI` (R810). -/
  | outi
  /-- `OTIR` (R811). -/
  | otir
  /-- `OUTD` (R812). -/
  | outd
  /-- `OTDR` (R813). -/
  | otdr
  /-- `OUTINB` (R814). -/
  | outinb
  -- CPU control (47_system.md)
  /-- `NOP` (R850). -/
  | nop
  /-- `HALT` (R851). -/
  | halt
  /-- `DI` (R852). -/
  | di
  /-- `EI` (R853). -/
  | ei
  /-- `IM 0` (R854). -/
  | im0
  /-- `IM 1` (R854). -/
  | im1
  /-- `IM 2` (R854). -/
  | im2
  /-- `RETI` (R855). -/
  | reti
  /-- `RETN` (R856). -/
  | retn
  -- screen address (48_pixel.md)
  /-- `PIXELAD` (R880). -/
  | pixelad
  /-- `PIXELDN` (R881). -/
  | pixeldn
  deriving DecidableEq, Repr

/-- Why the decoder rejects a byte sequence. -/
inductive DecodeError where
  /-- The list ended before the instruction did (never at a fetch, which supplies four bytes). -/
  | truncated
  /-- A second byte after `ED` that R307 does not list. -/
  | reservedED (b : Byte)
  /-- A second byte after `DD` or `FD` that R308 does not list. -/
  | reservedXY (p : IndexReg) (b : Byte)
  /-- A fourth byte after `DD CB d` or `FD CB d` that R309 does not list. -/
  | reservedXYCB (p : IndexReg) (b : Byte)
  deriving DecidableEq, Repr

end Sys2Proof
end

