-- ==== Sys2Proof/WellFormed.lean ====
section
/-! DEFINITION. Which instructions the encodings of 30_encoding.md can express: the field constraints of
spec/opcode_table.json that the operand types do not already carry. -/

namespace Sys2Proof

/-- The registers that an index-half load accepts beside the halves (R400, R417): never `H` or `L`. -/
def Reg8.plain : Reg8 → Bool
  | .h | .l => false
  | .a | .b | .c | .d | .e => true

/-- The pairs of the `ED` forms of `LD rr,(nn)` and `LD (nn),rr` (R421, R424): never `HL`. -/
def Pair.notHL : Pair → Bool
  | .hl => false
  | .bc | .de | .sp => true

/-- The four conditions that JR accepts (R303, R700). -/
def Cond.relative : Cond → Bool
  | .nz | .z | .nc | .c => true
  | .po | .pe | .p | .m => false

/-- An instruction that has an encoding. -/
def WellFormed : Instr → Bool
  | .ldRIXH t => t.plain
  | .ldIXHR s => s.plain
  | .ldRIXL t => t.plain
  | .ldIXLR s => s.plain
  | .ldRIYH t => t.plain
  | .ldIYHR s => s.plain
  | .ldRIYL t => t.plain
  | .ldIYLR s => s.plain
  | .ldRRAtNN q _ => q.notHL
  | .ldAtNNRR q _ => q.notHL
  | .jrCondE cc _ => cc.relative
  | .ldRR _ _ | .ldRN _ _ | .ldRAtHL _ | .ldAtHLR _ | .ldAtHLN _ | .ldRAtIXd _ _ | .ldAtIXdR _ _
  | .ldAtIXdN _ _ | .ldRAtIYd _ _ | .ldAtIYdR _ _ | .ldAtIYdN _ _ | .ldAAtBC | .ldAAtDE | .ldAAtNN _
  | .ldAtBCA | .ldAtDEA | .ldAtNNA _ | .ldAI | .ldARfsh | .ldIA | .ldRfshA | .ldIXHN _ | .ldIXHIXH
  | .ldIXHIXL | .ldIXLN _ | .ldIXLIXH | .ldIXLIXL | .ldIYHN _ | .ldIYHIYH | .ldIYHIYL | .ldIYLN _
  | .ldIYLIYH | .ldIYLIYL | .ldRRNN _ _ | .ldHLAtNN _ | .ldAtNNHL _ | .ldSPHL | .ldIXNN _ | .ldIXAtNN _
  | .ldAtNNIX _ | .ldSPIX | .ldIYNN _ | .ldIYAtNN _ | .ldAtNNIY _ | .ldSPIY | .pushRR _ | .popRR _
  | .pushIX | .popIX | .pushIY | .popIY | .pushNN _ | .exAFAFAlt | .exDEHL | .exAtSPHL | .exAtSPIX
  | .exAtSPIY | .exx | .addAR _ | .addAN _ | .addAAtHL | .addAAtIXd _ | .addAIXH | .addAIXL | .addAAtIYd _
  | .addAIYH | .addAIYL | .adcAR _ | .adcAN _ | .adcAAtHL | .adcAAtIXd _ | .adcAIXH | .adcAIXL
  | .adcAAtIYd _ | .adcAIYH | .adcAIYL | .subR _ | .subN _ | .subAtHL | .subAtIXd _ | .subIXH | .subIXL
  | .subAtIYd _ | .subIYH | .subIYL | .sbcAR _ | .sbcAN _ | .sbcAAtHL | .sbcAAtIXd _ | .sbcAIXH | .sbcAIXL
  | .sbcAAtIYd _ | .sbcAIYH | .sbcAIYL | .andR _ | .andN _ | .andAtHL | .andAtIXd _ | .andIXH | .andIXL
  | .andAtIYd _ | .andIYH | .andIYL | .xorR _ | .xorN _ | .xorAtHL | .xorAtIXd _ | .xorIXH | .xorIXL
  | .xorAtIYd _ | .xorIYH | .xorIYL | .orR _ | .orN _ | .orAtHL | .orAtIXd _ | .orIXH | .orIXL | .orAtIYd _
  | .orIYH | .orIYL | .cpR _ | .cpN _ | .cpAtHL | .cpAtIXd _ | .cpIXH | .cpIXL | .cpAtIYd _ | .cpIYH
  | .cpIYL | .incR _ | .incAtHL | .incAtIXd _ | .incIXH | .incIXL | .incAtIYd _ | .incIYH | .incIYL
  | .decR _ | .decAtHL | .decAtIXd _ | .decIXH | .decIXL | .decAtIYd _ | .decIYH | .decIYL | .daa | .cpl
  | .neg | .ccf | .scf | .testN _ | .addHLRR _ | .addIXRR _ | .addIYRR _ | .adcHLRR _ | .sbcHLRR _
  | .incRR _ | .decRR _ | .incIX | .decIX | .incIY | .decIY | .addHLA | .addDEA | .addBCA | .addHLNN _
  | .addDENN _ | .addBCNN _ | .mulDE | .rlca | .rla | .rrca | .rra | .rlcR _ | .rlcAtHL | .rlcAtIXd _
  | .rlcAtIXdR _ _ | .rlcAtIYd _ | .rlcAtIYdR _ _ | .rrcR _ | .rrcAtHL | .rrcAtIXd _ | .rrcAtIXdR _ _
  | .rrcAtIYd _ | .rrcAtIYdR _ _ | .rlR _ | .rlAtHL | .rlAtIXd _ | .rlAtIXdR _ _ | .rlAtIYd _
  | .rlAtIYdR _ _ | .rrR _ | .rrAtHL | .rrAtIXd _ | .rrAtIXdR _ _ | .rrAtIYd _ | .rrAtIYdR _ _ | .slaR _
  | .slaAtHL | .slaAtIXd _ | .slaAtIXdR _ _ | .slaAtIYd _ | .slaAtIYdR _ _ | .sraR _ | .sraAtHL
  | .sraAtIXd _ | .sraAtIXdR _ _ | .sraAtIYd _ | .sraAtIYdR _ _ | .sliR _ | .sliAtHL | .sliAtIXd _
  | .sliAtIXdR _ _ | .sliAtIYd _ | .sliAtIYdR _ _ | .srlR _ | .srlAtHL | .srlAtIXd _ | .srlAtIXdR _ _
  | .srlAtIYd _ | .srlAtIYdR _ _ | .rld | .rrd | .bitBR _ _ | .bitBAtHL _ | .resBR _ _ | .resBAtHL _
  | .setBR _ _ | .setBAtHL _ | .bitBAtIXd _ _ | .resBAtIXd _ _ | .setBAtIXd _ _ | .resBAtIXdR _ _ _
  | .setBAtIXdR _ _ _ | .bitBAtIYd _ _ | .resBAtIYd _ _ | .setBAtIYd _ _ | .resBAtIYdR _ _ _
  | .setBAtIYdR _ _ _ | .bslaDEB | .bsraDEB | .bsrlDEB | .bsrfDEB | .brlcDEB | .mirrorA | .swapnib | .setae
  | .jpNN _ | .jpCondNN _ _ | .jpAtHL | .jpAtIX | .jpAtIY | .jpAtC | .jrE _ | .djnzE _ | .callNN _
  | .callCondNN _ _ | .ret | .retCond _ | .rstN _ | .ldi | .ldir | .ldd | .lddr | .cpi | .cpir | .cpd
  | .cpdr | .ldix | .ldirx | .lddx | .lddrx | .ldpirx | .ldws | .inAAtN _ | .inRAtC _ | .inAtC | .outAtNA _
  | .outAtCR _ | .outAtCZero | .ini | .inir | .ind | .indr | .outi | .otir | .outd | .otdr | .outinb
  | .nextregNN _ _ | .nextregNA _ | .nop | .halt | .di | .ei | .im0 | .im1 | .im2 | .reti | .retn
  | .pixelad | .pixeldn => true

end Sys2Proof
end

