-- ==== Sys2Proof/Decode.lean ====
section
/-! DEFINITION. Decoding and encoding (30_encoding.md). A byte is read as the three fields `xx yyy zzz` that the
patterns of R305 to R309 are written in. `decode` is total on any list of bytes and rejects by name; `encode`
writes the bytes of an instruction from the same tables. -/

namespace Sys2Proof

/-- The outcome of decoding. -/
inductive Decoded where
  | instr (i : Instr)
  | rejected (e : DecodeError)
  deriving DecidableEq, Repr

/-! ## Fields and their tables -/

/-- Bits 7..6 of an opcode byte. -/
def fieldX (b : Byte) : Nat := b.toNat / 64

/-- Bits 5..3 of an opcode byte. -/
def fieldY (b : Byte) : Nat := b.toNat / 8 % 8

/-- Bits 2..0 of an opcode byte. -/
def fieldZ (b : Byte) : Nat := b.toNat % 8

/-- Table REG8 (R301); code 6, the memory operand, is `none`. -/
def Reg8.ofCode : Nat → Option Reg8
  | 0 => some .b
  | 1 => some .c
  | 2 => some .d
  | 3 => some .e
  | 4 => some .h
  | 5 => some .l
  | 7 => some .a
  | _ => none

/-- Table RP (R302). -/
def Pair.ofCode : Nat → Pair
  | 0 => .bc
  | 1 => .de
  | 2 => .hl
  | _ => .sp

/-- Table RP2 (R302). -/
def PairAF.ofCode : Nat → PairAF
  | 0 => .bc
  | 1 => .de
  | 2 => .hl
  | _ => .af

/-- Table RP in format XY, where code 2 is the index register (R302). -/
def PairXY.ofCode : Nat → PairXY
  | 0 => .bc
  | 1 => .de
  | 2 => .xy
  | _ => .sp

/-- Table CC (R303). -/
def Cond.ofCode : Nat → Cond
  | 0 => .nz
  | 1 => .z
  | 2 => .nc
  | 3 => .c
  | 4 => .po
  | 5 => .pe
  | 6 => .p
  | _ => .m

/-- The instruction of the index register that the prefix selects (R308). -/
def IndexReg.pick (p : IndexReg) (forIX forIY : Instr) : Instr :=
  match p with
  | .ix => forIX
  | .iy => forIY

/-! ## Operand bytes (R304, R310) -/

/-- One operand byte follows. -/
def withByte (rest : List Byte) (k : Byte → Instr) : Decoded :=
  match rest with
  | n :: _ => .instr (k n)
  | [] => .rejected .truncated

/-- Two operand bytes follow. -/
def withBytes (rest : List Byte) (k : Byte → Byte → Instr) : Decoded :=
  match rest with
  | m :: n :: _ => .instr (k m n)
  | _ => .rejected .truncated

/-- A 16-bit immediate follows, low byte first. -/
def withWord (rest : List Byte) (k : Word → Instr) : Decoded :=
  withBytes rest fun l h => k (join h l)

/-! ## The eight accumulator operations (R500) and the eight rotates and shifts (R604), by operation number -/

/-- `op r`. -/
def aluR : Nat → Reg8 → Instr
  | 0 => .addAR
  | 1 => .adcAR
  | 2 => .subR
  | 3 => .sbcAR
  | 4 => .andR
  | 5 => .xorR
  | 6 => .orR
  | _ => .cpR

/-- `op n`. -/
def aluN : Nat → Byte → Instr
  | 0 => .addAN
  | 1 => .adcAN
  | 2 => .subN
  | 3 => .sbcAN
  | 4 => .andN
  | 5 => .xorN
  | 6 => .orN
  | _ => .cpN

/-- `op (HL)`. -/
def aluAtHL : Nat → Instr
  | 0 => .addAAtHL
  | 1 => .adcAAtHL
  | 2 => .subAtHL
  | 3 => .sbcAAtHL
  | 4 => .andAtHL
  | 5 => .xorAtHL
  | 6 => .orAtHL
  | _ => .cpAtHL

/-- `op (IX+d)`. -/
def aluAtIXd : Nat → Byte → Instr
  | 0 => .addAAtIXd
  | 1 => .adcAAtIXd
  | 2 => .subAtIXd
  | 3 => .sbcAAtIXd
  | 4 => .andAtIXd
  | 5 => .xorAtIXd
  | 6 => .orAtIXd
  | _ => .cpAtIXd

/-- `op (IY+d)`. -/
def aluAtIYd : Nat → Byte → Instr
  | 0 => .addAAtIYd
  | 1 => .adcAAtIYd
  | 2 => .subAtIYd
  | 3 => .sbcAAtIYd
  | 4 => .andAtIYd
  | 5 => .xorAtIYd
  | 6 => .orAtIYd
  | _ => .cpAtIYd

/-- `op IXH`. -/
def aluIXH : Nat → Instr
  | 0 => .addAIXH
  | 1 => .adcAIXH
  | 2 => .subIXH
  | 3 => .sbcAIXH
  | 4 => .andIXH
  | 5 => .xorIXH
  | 6 => .orIXH
  | _ => .cpIXH

/-- `op IXL`. -/
def aluIXL : Nat → Instr
  | 0 => .addAIXL
  | 1 => .adcAIXL
  | 2 => .subIXL
  | 3 => .sbcAIXL
  | 4 => .andIXL
  | 5 => .xorIXL
  | 6 => .orIXL
  | _ => .cpIXL

/-- `op IYH`. -/
def aluIYH : Nat → Instr
  | 0 => .addAIYH
  | 1 => .adcAIYH
  | 2 => .subIYH
  | 3 => .sbcAIYH
  | 4 => .andIYH
  | 5 => .xorIYH
  | 6 => .orIYH
  | _ => .cpIYH

/-- `op IYL`. -/
def aluIYL : Nat → Instr
  | 0 => .addAIYL
  | 1 => .adcAIYL
  | 2 => .subIYL
  | 3 => .sbcAIYL
  | 4 => .andIYL
  | 5 => .xorIYL
  | 6 => .orIYL
  | _ => .cpIYL

/-- `op r`. -/
def shiftR : Nat → Reg8 → Instr
  | 0 => .rlcR
  | 1 => .rrcR
  | 2 => .rlR
  | 3 => .rrR
  | 4 => .slaR
  | 5 => .sraR
  | 6 => .sliR
  | _ => .srlR

/-- `op (HL)`. -/
def shiftAtHL : Nat → Instr
  | 0 => .rlcAtHL
  | 1 => .rrcAtHL
  | 2 => .rlAtHL
  | 3 => .rrAtHL
  | 4 => .slaAtHL
  | 5 => .sraAtHL
  | 6 => .sliAtHL
  | _ => .srlAtHL

/-- `op (IX+d)`. -/
def shiftAtIXd : Nat → Byte → Instr
  | 0 => .rlcAtIXd
  | 1 => .rrcAtIXd
  | 2 => .rlAtIXd
  | 3 => .rrAtIXd
  | 4 => .slaAtIXd
  | 5 => .sraAtIXd
  | 6 => .sliAtIXd
  | _ => .srlAtIXd

/-- `op (IY+d)`. -/
def shiftAtIYd : Nat → Byte → Instr
  | 0 => .rlcAtIYd
  | 1 => .rrcAtIYd
  | 2 => .rlAtIYd
  | 3 => .rrAtIYd
  | 4 => .slaAtIYd
  | 5 => .sraAtIYd
  | 6 => .sliAtIYd
  | _ => .srlAtIYd

/-- `op (IX+d),r`. -/
def shiftAtIXdR : Nat → Byte → Reg8 → Instr
  | 0 => .rlcAtIXdR
  | 1 => .rrcAtIXdR
  | 2 => .rlAtIXdR
  | 3 => .rrAtIXdR
  | 4 => .slaAtIXdR
  | 5 => .sraAtIXdR
  | 6 => .sliAtIXdR
  | _ => .srlAtIXdR

/-- `op (IY+d),r`. -/
def shiftAtIYdR : Nat → Byte → Reg8 → Instr
  | 0 => .rlcAtIYdR
  | 1 => .rrcAtIYdR
  | 2 => .rlAtIYdR
  | 3 => .rrAtIYdR
  | 4 => .slaAtIYdR
  | 5 => .sraAtIYdR
  | 6 => .sliAtIYdR
  | _ => .srlAtIYdR

/-! ## The unprefixed map (R305) -/

/-- First bytes `00yyyzzz`. -/
def decodeOP0 (y z : Nat) (rest : List Byte) : Decoded :=
  match z with
  | 0 =>
    match y with
    | 0 => .instr .nop
    | 1 => .instr .exAFAFAlt
    | 2 => withByte rest .djnzE
    | 3 => withByte rest .jrE
    | y => withByte rest (.jrCondE (Cond.ofCode (y - 4)))
  | 1 =>
    match y % 2 with
    | 0 => withWord rest (.ldRRNN (Pair.ofCode (y / 2)))
    | _ => .instr (.addHLRR (Pair.ofCode (y / 2)))
  | 2 =>
    match y with
    | 0 => .instr .ldAtBCA
    | 1 => .instr .ldAAtBC
    | 2 => .instr .ldAtDEA
    | 3 => .instr .ldAAtDE
    | 4 => withWord rest .ldAtNNHL
    | 5 => withWord rest .ldHLAtNN
    | 6 => withWord rest .ldAtNNA
    | _ => withWord rest .ldAAtNN
  | 3 =>
    match y % 2 with
    | 0 => .instr (.incRR (Pair.ofCode (y / 2)))
    | _ => .instr (.decRR (Pair.ofCode (y / 2)))
  | 4 =>
    match Reg8.ofCode y with
    | some t => .instr (.incR t)
    | none => .instr .incAtHL
  | 5 =>
    match Reg8.ofCode y with
    | some t => .instr (.decR t)
    | none => .instr .decAtHL
  | 6 =>
    match Reg8.ofCode y with
    | some t => withByte rest (.ldRN t)
    | none => withByte rest .ldAtHLN
  | _ =>
    match y with
    | 0 => .instr .rlca
    | 1 => .instr .rrca
    | 2 => .instr .rla
    | 3 => .instr .rra
    | 4 => .instr .daa
    | 5 => .instr .cpl
    | 6 => .instr .scf
    | _ => .instr .ccf

/-- First bytes `01tttsss`: the 8-bit loads, and HALT in the slot of both codes 6. -/
def decodeOP1 (t s : Nat) : Decoded :=
  match Reg8.ofCode t, Reg8.ofCode s with
  | some t, some s => .instr (.ldRR t s)
  | some t, none => .instr (.ldRAtHL t)
  | none, some s => .instr (.ldAtHLR s)
  | none, none => .instr .halt

/-- First bytes `10ooosss`: the accumulator operations. -/
def decodeOP2 (op s : Nat) : Decoded :=
  match Reg8.ofCode s with
  | some s => .instr (aluR op s)
  | none => .instr (aluAtHL op)

/-- First bytes `11yyyzzz` that are no prefix (`decode` takes the four prefixes first). -/
def decodeOP3 (y z : Nat) (rest : List Byte) : Decoded :=
  match z with
  | 0 => .instr (.retCond (Cond.ofCode y))
  | 1 =>
    match y with
    | 1 => .instr .ret
    | 3 => .instr .exx
    | 5 => .instr .jpAtHL
    | 7 => .instr .ldSPHL
    | y => .instr (.popRR (PairAF.ofCode (y / 2)))
  | 2 => withWord rest (.jpCondNN (Cond.ofCode y))
  | 3 =>
    match y with
    | 0 => withWord rest .jpNN
    | 2 => withByte rest .outAtNA
    | 3 => withByte rest .inAAtN
    | 4 => .instr .exAtSPHL
    | 5 => .instr .exDEHL
    | 6 => .instr .di
    | _ => .instr .ei
  | 4 => withWord rest (.callCondNN (Cond.ofCode y))
  | 5 =>
    match y with
    | 1 => withWord rest .callNN
    | y => .instr (.pushRR (PairAF.ofCode (y / 2)))
  | 6 => withByte rest (aluN y)
  | _ => .instr (.rstN (BitVec.ofNat 3 y))

/-! ## The `CB` map (R306) -/

/-- The instruction `CB xxyyyzzz`. -/
def decodeCB (b : Byte) : Instr :=
  let y := fieldY b
  match fieldX b, Reg8.ofCode (fieldZ b) with
  | 0, some s => shiftR y s
  | 0, none => shiftAtHL y
  | 1, some s => .bitBR (BitVec.ofNat 3 y) s
  | 1, none => .bitBAtHL (BitVec.ofNat 3 y)
  | 2, some s => .resBR (BitVec.ofNat 3 y) s
  | 2, none => .resBAtHL (BitVec.ofNat 3 y)
  | _, some s => .setBR (BitVec.ofNat 3 y) s
  | _, none => .setBAtHL (BitVec.ofNat 3 y)

/-! ## The `ED` map (R307) -/

/-- Second bytes `01yyyzzz`. -/
def decodeED1 (b : Byte) (y z : Nat) (rest : List Byte) : Decoded :=
  match z, y with
  | 0, y =>
    match Reg8.ofCode y with
    | some t => .instr (.inRAtC t)
    | none => .instr .inAtC
  | 1, y =>
    match Reg8.ofCode y with
    | some t => .instr (.outAtCR t)
    | none => .instr .outAtCZero
  | 2, y =>
    match y % 2 with
    | 0 => .instr (.sbcHLRR (Pair.ofCode (y / 2)))
    | _ => .instr (.adcHLRR (Pair.ofCode (y / 2)))
  | 3, 4 => .rejected (.reservedED b)
  | 3, 5 => .rejected (.reservedED b)
  | 3, y =>
    match y % 2 with
    | 0 => withWord rest (.ldAtNNRR (Pair.ofCode (y / 2)))
    | _ => withWord rest (.ldRRAtNN (Pair.ofCode (y / 2)))
  | 4, 0 => .instr .neg
  | 5, 0 => .instr .retn
  | 5, 1 => .instr .reti
  | 6, 0 => .instr .im0
  | 6, 2 => .instr .im1
  | 6, 3 => .instr .im2
  | 7, 0 => .instr .ldIA
  | 7, 1 => .instr .ldRfshA
  | 7, 2 => .instr .ldAI
  | 7, 3 => .instr .ldARfsh
  | 7, 4 => .instr .rrd
  | 7, 5 => .instr .rld
  | _, _ => .rejected (.reservedED b)

/-- The instruction `ED b …`. -/
def decodeED (b : Byte) (rest : List Byte) : Decoded :=
  match b.toNat with
  | 0x23 => .instr .swapnib
  | 0x24 => .instr .mirrorA
  | 0x27 => withByte rest .testN
  | 0x28 => .instr .bslaDEB
  | 0x29 => .instr .bsraDEB
  | 0x2A => .instr .bsrlDEB
  | 0x2B => .instr .bsrfDEB
  | 0x2C => .instr .brlcDEB
  | 0x30 => .instr .mulDE
  | 0x31 => .instr .addHLA
  | 0x32 => .instr .addDEA
  | 0x33 => .instr .addBCA
  | 0x34 => withWord rest .addHLNN
  | 0x35 => withWord rest .addDENN
  | 0x36 => withWord rest .addBCNN
  -- the one immediate stored high byte first (R304)
  | 0x8A => withBytes rest fun h l => .pushNN (join h l)
  | 0x90 => .instr .outinb
  | 0x91 => withBytes rest .nextregNN
  | 0x92 => withByte rest .nextregNA
  | 0x93 => .instr .pixeldn
  | 0x94 => .instr .pixelad
  | 0x95 => .instr .setae
  | 0x98 => .instr .jpAtC
  | 0xA0 => .instr .ldi
  | 0xA1 => .instr .cpi
  | 0xA2 => .instr .ini
  | 0xA3 => .instr .outi
  | 0xA4 => .instr .ldix
  | 0xA5 => .instr .ldws
  | 0xA8 => .instr .ldd
  | 0xA9 => .instr .cpd
  | 0xAA => .instr .ind
  | 0xAB => .instr .outd
  | 0xAC => .instr .lddx
  | 0xB0 => .instr .ldir
  | 0xB1 => .instr .cpir
  | 0xB2 => .instr .inir
  | 0xB3 => .instr .otir
  | 0xB4 => .instr .ldirx
  | 0xB7 => .instr .ldpirx
  | 0xB8 => .instr .lddr
  | 0xB9 => .instr .cpdr
  | 0xBA => .instr .indr
  | 0xBB => .instr .otdr
  | 0xBC => .instr .lddrx
  | _ =>
    match fieldX b with
    | 1 => decodeED1 b (fieldY b) (fieldZ b) rest
    | _ => .rejected (.reservedED b)

/-! ## The `XYCB` map (R309) -/

/-- The instruction `DD CB d op` or `FD CB d op`. -/
def decodeXYCB (p : IndexReg) (d op : Byte) : Decoded :=
  let y := fieldY op
  let b := BitVec.ofNat 3 y
  match fieldX op, Reg8.ofCode (fieldZ op) with
  | 0, none => .instr (p.pick (shiftAtIXd y d) (shiftAtIYd y d))
  | 0, some s => .instr (p.pick (shiftAtIXdR y d s) (shiftAtIYdR y d s))
  | 1, none => .instr (p.pick (.bitBAtIXd b d) (.bitBAtIYd b d))
  | 1, some _ => .rejected (.reservedXYCB p op)
  | 2, none => .instr (p.pick (.resBAtIXd b d) (.resBAtIYd b d))
  | 2, some s => .instr (p.pick (.resBAtIXdR b d s) (.resBAtIYdR b d s))
  | _, none => .instr (p.pick (.setBAtIXd b d) (.setBAtIYd b d))
  | _, some s => .instr (p.pick (.setBAtIXdR b d s) (.setBAtIYdR b d s))

/-! ## The `XY` map (R308) -/

/-- Second bytes `01tttsss`: the loads that name a half or `(XY+d)`. -/
def decodeXY1 (p : IndexReg) (b : Byte) (t s : Nat) (rest : List Byte) : Decoded :=
  match t, s with
  | 6, 6 => .rejected (.reservedXY p b)
  | 6, s =>
    match Reg8.ofCode s with
    | some s => withByte rest fun d => p.pick (.ldAtIXdR d s) (.ldAtIYdR d s)
    | none => .rejected (.reservedXY p b)
  | t, 6 =>
    match Reg8.ofCode t with
    | some t => withByte rest fun d => p.pick (.ldRAtIXd t d) (.ldRAtIYd t d)
    | none => .rejected (.reservedXY p b)
  | 4, 4 => .instr (p.pick .ldIXHIXH .ldIYHIYH)
  | 4, 5 => .instr (p.pick .ldIXHIXL .ldIYHIYL)
  | 5, 4 => .instr (p.pick .ldIXLIXH .ldIYLIYH)
  | 5, 5 => .instr (p.pick .ldIXLIXL .ldIYLIYL)
  | 4, s =>
    match Reg8.ofCode s with
    | some s => .instr (p.pick (.ldIXHR s) (.ldIYHR s))
    | none => .rejected (.reservedXY p b)
  | 5, s =>
    match Reg8.ofCode s with
    | some s => .instr (p.pick (.ldIXLR s) (.ldIYLR s))
    | none => .rejected (.reservedXY p b)
  | t, 4 =>
    match Reg8.ofCode t with
    | some t => .instr (p.pick (.ldRIXH t) (.ldRIYH t))
    | none => .rejected (.reservedXY p b)
  | t, 5 =>
    match Reg8.ofCode t with
    | some t => .instr (p.pick (.ldRIXL t) (.ldRIYL t))
    | none => .rejected (.reservedXY p b)
  | _, _ => .rejected (.reservedXY p b)

/-- The instruction `DD b …` or `FD b …`, `b` other than `CB`. -/
def decodeXY (p : IndexReg) (b : Byte) (rest : List Byte) : Decoded :=
  match b.toNat with
  | 0x09 => .instr (p.pick (.addIXRR .bc) (.addIYRR .bc))
  | 0x19 => .instr (p.pick (.addIXRR .de) (.addIYRR .de))
  | 0x29 => .instr (p.pick (.addIXRR .xy) (.addIYRR .xy))
  | 0x39 => .instr (p.pick (.addIXRR .sp) (.addIYRR .sp))
  | 0x21 => withWord rest fun nn => p.pick (.ldIXNN nn) (.ldIYNN nn)
  | 0x22 => withWord rest fun nn => p.pick (.ldAtNNIX nn) (.ldAtNNIY nn)
  | 0x2A => withWord rest fun nn => p.pick (.ldIXAtNN nn) (.ldIYAtNN nn)
  | 0x23 => .instr (p.pick .incIX .incIY)
  | 0x2B => .instr (p.pick .decIX .decIY)
  | 0x24 => .instr (p.pick .incIXH .incIYH)
  | 0x25 => .instr (p.pick .decIXH .decIYH)
  | 0x2C => .instr (p.pick .incIXL .incIYL)
  | 0x2D => .instr (p.pick .decIXL .decIYL)
  | 0x26 => withByte rest fun n => p.pick (.ldIXHN n) (.ldIYHN n)
  | 0x2E => withByte rest fun n => p.pick (.ldIXLN n) (.ldIYLN n)
  | 0x34 => withByte rest fun d => p.pick (.incAtIXd d) (.incAtIYd d)
  | 0x35 => withByte rest fun d => p.pick (.decAtIXd d) (.decAtIYd d)
  | 0x36 => withBytes rest fun d n => p.pick (.ldAtIXdN d n) (.ldAtIYdN d n)
  | 0xE1 => .instr (p.pick .popIX .popIY)
  | 0xE5 => .instr (p.pick .pushIX .pushIY)
  | 0xE3 => .instr (p.pick .exAtSPIX .exAtSPIY)
  | 0xE9 => .instr (p.pick .jpAtIX .jpAtIY)
  | 0xF9 => .instr (p.pick .ldSPIX .ldSPIY)
  | _ =>
    let y := fieldY b
    match fieldX b, fieldZ b with
    | 1, z => decodeXY1 p b y z rest
    | 2, 4 => .instr (p.pick (aluIXH y) (aluIYH y))
    | 2, 5 => .instr (p.pick (aluIXL y) (aluIYL y))
    | 2, 6 => withByte rest fun d => p.pick (aluAtIXd y d) (aluAtIYd y d)
    | _, _ => .rejected (.reservedXY p b)

/-! ## The decoder (R312) -/

/-- The bytes after `DD` or `FD`. -/
def decodePrefixXY (p : IndexReg) : List Byte → Decoded
  | [] => .rejected .truncated
  | b :: rest =>
    if b = 0xCB then
      match rest with
      | d :: op :: _ => decodeXYCB p d op
      | _ => .rejected .truncated
    else decodeXY p b rest

/-- The instruction at the front of a list of bytes; the bytes after it are not looked at (R312). -/
def decode : List Byte → Decoded
  | [] => .rejected .truncated
  | b :: rest =>
    if b = 0xCB then
      match rest with
      | op :: _ => .instr (decodeCB op)
      | [] => .rejected .truncated
    else if b = 0xED then
      match rest with
      | op :: rest => decodeED op rest
      | [] => .rejected .truncated
    else if b = 0xDD then decodePrefixXY .ix rest
    else if b = 0xFD then decodePrefixXY .iy rest
    else
      match fieldX b with
      | 0 => decodeOP0 (fieldY b) (fieldZ b) rest
      | 1 => decodeOP1 (fieldY b) (fieldZ b)
      | 2 => decodeOP2 (fieldY b) (fieldZ b)
      | _ => decodeOP3 (fieldY b) (fieldZ b) rest

/-! ## The encoder -/

/-- Codes of table REG8 (R301). -/
def Reg8.code : Reg8 → Nat
  | .b => 0
  | .c => 1
  | .d => 2
  | .e => 3
  | .h => 4
  | .l => 5
  | .a => 7

/-- Codes of table RP (R302). -/
def Pair.code : Pair → Nat
  | .bc => 0
  | .de => 1
  | .hl => 2
  | .sp => 3

/-- Codes of table RP2 (R302). -/
def PairAF.code : PairAF → Nat
  | .bc => 0
  | .de => 1
  | .hl => 2
  | .af => 3

/-- Codes of table RP in format XY (R302). -/
def PairXY.code : PairXY → Nat
  | .bc => 0
  | .de => 1
  | .xy => 2
  | .sp => 3

/-- Codes of table CC (R303). -/
def Cond.code : Cond → Nat
  | .nz => 0
  | .z => 1
  | .nc => 2
  | .c => 3
  | .po => 4
  | .pe => 5
  | .p => 6
  | .m => 7

/-- An opcode byte whose fixed bits are `base` and whose fields, already at their places, are `fields`. -/
def opcode (base fields : Nat) : Byte := BitVec.ofNat 8 (base + fields)

/-- The bytes of an instruction (R305 to R309): fixed bits in hexadecimal, a field times its place value. -/
def encode : Instr → List Byte
  | .ldRR t s => [opcode 0x40 (8 * t.code + s.code)]
  | .ldRN t n => [opcode 0x06 (8 * t.code), n]
  | .ldRAtHL t => [opcode 0x46 (8 * t.code)]
  | .ldAtHLR s => [opcode 0x70 (s.code)]
  | .ldAtHLN n => [0x36, n]
  | .ldRAtIXd t d => [0xDD, opcode 0x46 (8 * t.code), d]
  | .ldAtIXdR d s => [0xDD, opcode 0x70 (s.code), d]
  | .ldAtIXdN d n => [0xDD, 0x36, d, n]
  | .ldRAtIYd t d => [0xFD, opcode 0x46 (8 * t.code), d]
  | .ldAtIYdR d s => [0xFD, opcode 0x70 (s.code), d]
  | .ldAtIYdN d n => [0xFD, 0x36, d, n]
  | .ldAAtBC => [0x0A]
  | .ldAAtDE => [0x1A]
  | .ldAAtNN nn => [0x3A, lo nn, hi nn]
  | .ldAtBCA => [0x02]
  | .ldAtDEA => [0x12]
  | .ldAtNNA nn => [0x32, lo nn, hi nn]
  | .ldAI => [0xED, 0x57]
  | .ldARfsh => [0xED, 0x5F]
  | .ldIA => [0xED, 0x47]
  | .ldRfshA => [0xED, 0x4F]
  | .ldRIXH t => [0xDD, opcode 0x44 (8 * t.code)]
  | .ldIXHR s => [0xDD, opcode 0x60 (s.code)]
  | .ldIXHN n => [0xDD, 0x26, n]
  | .ldIXHIXH => [0xDD, 0x64]
  | .ldIXHIXL => [0xDD, 0x65]
  | .ldRIXL t => [0xDD, opcode 0x45 (8 * t.code)]
  | .ldIXLR s => [0xDD, opcode 0x68 (s.code)]
  | .ldIXLN n => [0xDD, 0x2E, n]
  | .ldIXLIXH => [0xDD, 0x6C]
  | .ldIXLIXL => [0xDD, 0x6D]
  | .ldRIYH t => [0xFD, opcode 0x44 (8 * t.code)]
  | .ldIYHR s => [0xFD, opcode 0x60 (s.code)]
  | .ldIYHN n => [0xFD, 0x26, n]
  | .ldIYHIYH => [0xFD, 0x64]
  | .ldIYHIYL => [0xFD, 0x65]
  | .ldRIYL t => [0xFD, opcode 0x45 (8 * t.code)]
  | .ldIYLR s => [0xFD, opcode 0x68 (s.code)]
  | .ldIYLN n => [0xFD, 0x2E, n]
  | .ldIYLIYH => [0xFD, 0x6C]
  | .ldIYLIYL => [0xFD, 0x6D]
  | .ldRRNN q nn => [opcode 0x01 (16 * q.code), lo nn, hi nn]
  | .ldHLAtNN nn => [0x2A, lo nn, hi nn]
  | .ldAtNNHL nn => [0x22, lo nn, hi nn]
  | .ldRRAtNN q nn => [0xED, opcode 0x4B (16 * q.code), lo nn, hi nn]
  | .ldAtNNRR q nn => [0xED, opcode 0x43 (16 * q.code), lo nn, hi nn]
  | .ldSPHL => [0xF9]
  | .ldIXNN nn => [0xDD, 0x21, lo nn, hi nn]
  | .ldIXAtNN nn => [0xDD, 0x2A, lo nn, hi nn]
  | .ldAtNNIX nn => [0xDD, 0x22, lo nn, hi nn]
  | .ldSPIX => [0xDD, 0xF9]
  | .ldIYNN nn => [0xFD, 0x21, lo nn, hi nn]
  | .ldIYAtNN nn => [0xFD, 0x2A, lo nn, hi nn]
  | .ldAtNNIY nn => [0xFD, 0x22, lo nn, hi nn]
  | .ldSPIY => [0xFD, 0xF9]
  | .pushRR q => [opcode 0xC5 (16 * q.code)]
  | .popRR q => [opcode 0xC1 (16 * q.code)]
  | .pushIX => [0xDD, 0xE5]
  | .popIX => [0xDD, 0xE1]
  | .pushIY => [0xFD, 0xE5]
  | .popIY => [0xFD, 0xE1]
  | .pushNN nn => [0xED, 0x8A, hi nn, lo nn]
  | .exAFAFAlt => [0x08]
  | .exDEHL => [0xEB]
  | .exAtSPHL => [0xE3]
  | .exAtSPIX => [0xDD, 0xE3]
  | .exAtSPIY => [0xFD, 0xE3]
  | .exx => [0xD9]
  | .addAR s => [opcode 0x80 (s.code)]
  | .addAN n => [0xC6, n]
  | .addAAtHL => [0x86]
  | .addAAtIXd d => [0xDD, 0x86, d]
  | .addAIXH => [0xDD, 0x84]
  | .addAIXL => [0xDD, 0x85]
  | .addAAtIYd d => [0xFD, 0x86, d]
  | .addAIYH => [0xFD, 0x84]
  | .addAIYL => [0xFD, 0x85]
  | .adcAR s => [opcode 0x88 (s.code)]
  | .adcAN n => [0xCE, n]
  | .adcAAtHL => [0x8E]
  | .adcAAtIXd d => [0xDD, 0x8E, d]
  | .adcAIXH => [0xDD, 0x8C]
  | .adcAIXL => [0xDD, 0x8D]
  | .adcAAtIYd d => [0xFD, 0x8E, d]
  | .adcAIYH => [0xFD, 0x8C]
  | .adcAIYL => [0xFD, 0x8D]
  | .subR s => [opcode 0x90 (s.code)]
  | .subN n => [0xD6, n]
  | .subAtHL => [0x96]
  | .subAtIXd d => [0xDD, 0x96, d]
  | .subIXH => [0xDD, 0x94]
  | .subIXL => [0xDD, 0x95]
  | .subAtIYd d => [0xFD, 0x96, d]
  | .subIYH => [0xFD, 0x94]
  | .subIYL => [0xFD, 0x95]
  | .sbcAR s => [opcode 0x98 (s.code)]
  | .sbcAN n => [0xDE, n]
  | .sbcAAtHL => [0x9E]
  | .sbcAAtIXd d => [0xDD, 0x9E, d]
  | .sbcAIXH => [0xDD, 0x9C]
  | .sbcAIXL => [0xDD, 0x9D]
  | .sbcAAtIYd d => [0xFD, 0x9E, d]
  | .sbcAIYH => [0xFD, 0x9C]
  | .sbcAIYL => [0xFD, 0x9D]
  | .andR s => [opcode 0xA0 (s.code)]
  | .andN n => [0xE6, n]
  | .andAtHL => [0xA6]
  | .andAtIXd d => [0xDD, 0xA6, d]
  | .andIXH => [0xDD, 0xA4]
  | .andIXL => [0xDD, 0xA5]
  | .andAtIYd d => [0xFD, 0xA6, d]
  | .andIYH => [0xFD, 0xA4]
  | .andIYL => [0xFD, 0xA5]
  | .xorR s => [opcode 0xA8 (s.code)]
  | .xorN n => [0xEE, n]
  | .xorAtHL => [0xAE]
  | .xorAtIXd d => [0xDD, 0xAE, d]
  | .xorIXH => [0xDD, 0xAC]
  | .xorIXL => [0xDD, 0xAD]
  | .xorAtIYd d => [0xFD, 0xAE, d]
  | .xorIYH => [0xFD, 0xAC]
  | .xorIYL => [0xFD, 0xAD]
  | .orR s => [opcode 0xB0 (s.code)]
  | .orN n => [0xF6, n]
  | .orAtHL => [0xB6]
  | .orAtIXd d => [0xDD, 0xB6, d]
  | .orIXH => [0xDD, 0xB4]
  | .orIXL => [0xDD, 0xB5]
  | .orAtIYd d => [0xFD, 0xB6, d]
  | .orIYH => [0xFD, 0xB4]
  | .orIYL => [0xFD, 0xB5]
  | .cpR s => [opcode 0xB8 (s.code)]
  | .cpN n => [0xFE, n]
  | .cpAtHL => [0xBE]
  | .cpAtIXd d => [0xDD, 0xBE, d]
  | .cpIXH => [0xDD, 0xBC]
  | .cpIXL => [0xDD, 0xBD]
  | .cpAtIYd d => [0xFD, 0xBE, d]
  | .cpIYH => [0xFD, 0xBC]
  | .cpIYL => [0xFD, 0xBD]
  | .incR t => [opcode 0x04 (8 * t.code)]
  | .incAtHL => [0x34]
  | .incAtIXd d => [0xDD, 0x34, d]
  | .incIXH => [0xDD, 0x24]
  | .incIXL => [0xDD, 0x2C]
  | .incAtIYd d => [0xFD, 0x34, d]
  | .incIYH => [0xFD, 0x24]
  | .incIYL => [0xFD, 0x2C]
  | .decR t => [opcode 0x05 (8 * t.code)]
  | .decAtHL => [0x35]
  | .decAtIXd d => [0xDD, 0x35, d]
  | .decIXH => [0xDD, 0x25]
  | .decIXL => [0xDD, 0x2D]
  | .decAtIYd d => [0xFD, 0x35, d]
  | .decIYH => [0xFD, 0x25]
  | .decIYL => [0xFD, 0x2D]
  | .daa => [0x27]
  | .cpl => [0x2F]
  | .neg => [0xED, 0x44]
  | .ccf => [0x3F]
  | .scf => [0x37]
  | .testN n => [0xED, 0x27, n]
  | .addHLRR q => [opcode 0x09 (16 * q.code)]
  | .addIXRR q => [0xDD, opcode 0x09 (16 * q.code)]
  | .addIYRR q => [0xFD, opcode 0x09 (16 * q.code)]
  | .adcHLRR q => [0xED, opcode 0x4A (16 * q.code)]
  | .sbcHLRR q => [0xED, opcode 0x42 (16 * q.code)]
  | .incRR q => [opcode 0x03 (16 * q.code)]
  | .decRR q => [opcode 0x0B (16 * q.code)]
  | .incIX => [0xDD, 0x23]
  | .decIX => [0xDD, 0x2B]
  | .incIY => [0xFD, 0x23]
  | .decIY => [0xFD, 0x2B]
  | .addHLA => [0xED, 0x31]
  | .addDEA => [0xED, 0x32]
  | .addBCA => [0xED, 0x33]
  | .addHLNN nn => [0xED, 0x34, lo nn, hi nn]
  | .addDENN nn => [0xED, 0x35, lo nn, hi nn]
  | .addBCNN nn => [0xED, 0x36, lo nn, hi nn]
  | .mulDE => [0xED, 0x30]
  | .rlca => [0x07]
  | .rla => [0x17]
  | .rrca => [0x0F]
  | .rra => [0x1F]
  | .rlcR s => [0xCB, opcode 0x00 (s.code)]
  | .rlcAtHL => [0xCB, 0x06]
  | .rlcAtIXd d => [0xDD, 0xCB, d, 0x06]
  | .rlcAtIXdR d s => [0xDD, 0xCB, d, opcode 0x00 (s.code)]
  | .rlcAtIYd d => [0xFD, 0xCB, d, 0x06]
  | .rlcAtIYdR d s => [0xFD, 0xCB, d, opcode 0x00 (s.code)]
  | .rrcR s => [0xCB, opcode 0x08 (s.code)]
  | .rrcAtHL => [0xCB, 0x0E]
  | .rrcAtIXd d => [0xDD, 0xCB, d, 0x0E]
  | .rrcAtIXdR d s => [0xDD, 0xCB, d, opcode 0x08 (s.code)]
  | .rrcAtIYd d => [0xFD, 0xCB, d, 0x0E]
  | .rrcAtIYdR d s => [0xFD, 0xCB, d, opcode 0x08 (s.code)]
  | .rlR s => [0xCB, opcode 0x10 (s.code)]
  | .rlAtHL => [0xCB, 0x16]
  | .rlAtIXd d => [0xDD, 0xCB, d, 0x16]
  | .rlAtIXdR d s => [0xDD, 0xCB, d, opcode 0x10 (s.code)]
  | .rlAtIYd d => [0xFD, 0xCB, d, 0x16]
  | .rlAtIYdR d s => [0xFD, 0xCB, d, opcode 0x10 (s.code)]
  | .rrR s => [0xCB, opcode 0x18 (s.code)]
  | .rrAtHL => [0xCB, 0x1E]
  | .rrAtIXd d => [0xDD, 0xCB, d, 0x1E]
  | .rrAtIXdR d s => [0xDD, 0xCB, d, opcode 0x18 (s.code)]
  | .rrAtIYd d => [0xFD, 0xCB, d, 0x1E]
  | .rrAtIYdR d s => [0xFD, 0xCB, d, opcode 0x18 (s.code)]
  | .slaR s => [0xCB, opcode 0x20 (s.code)]
  | .slaAtHL => [0xCB, 0x26]
  | .slaAtIXd d => [0xDD, 0xCB, d, 0x26]
  | .slaAtIXdR d s => [0xDD, 0xCB, d, opcode 0x20 (s.code)]
  | .slaAtIYd d => [0xFD, 0xCB, d, 0x26]
  | .slaAtIYdR d s => [0xFD, 0xCB, d, opcode 0x20 (s.code)]
  | .sraR s => [0xCB, opcode 0x28 (s.code)]
  | .sraAtHL => [0xCB, 0x2E]
  | .sraAtIXd d => [0xDD, 0xCB, d, 0x2E]
  | .sraAtIXdR d s => [0xDD, 0xCB, d, opcode 0x28 (s.code)]
  | .sraAtIYd d => [0xFD, 0xCB, d, 0x2E]
  | .sraAtIYdR d s => [0xFD, 0xCB, d, opcode 0x28 (s.code)]
  | .sliR s => [0xCB, opcode 0x30 (s.code)]
  | .sliAtHL => [0xCB, 0x36]
  | .sliAtIXd d => [0xDD, 0xCB, d, 0x36]
  | .sliAtIXdR d s => [0xDD, 0xCB, d, opcode 0x30 (s.code)]
  | .sliAtIYd d => [0xFD, 0xCB, d, 0x36]
  | .sliAtIYdR d s => [0xFD, 0xCB, d, opcode 0x30 (s.code)]
  | .srlR s => [0xCB, opcode 0x38 (s.code)]
  | .srlAtHL => [0xCB, 0x3E]
  | .srlAtIXd d => [0xDD, 0xCB, d, 0x3E]
  | .srlAtIXdR d s => [0xDD, 0xCB, d, opcode 0x38 (s.code)]
  | .srlAtIYd d => [0xFD, 0xCB, d, 0x3E]
  | .srlAtIYdR d s => [0xFD, 0xCB, d, opcode 0x38 (s.code)]
  | .rld => [0xED, 0x6F]
  | .rrd => [0xED, 0x67]
  | .bitBR b s => [0xCB, opcode 0x40 (8 * b.toNat + s.code)]
  | .bitBAtHL b => [0xCB, opcode 0x46 (8 * b.toNat)]
  | .resBR b s => [0xCB, opcode 0x80 (8 * b.toNat + s.code)]
  | .resBAtHL b => [0xCB, opcode 0x86 (8 * b.toNat)]
  | .setBR b s => [0xCB, opcode 0xC0 (8 * b.toNat + s.code)]
  | .setBAtHL b => [0xCB, opcode 0xC6 (8 * b.toNat)]
  | .bitBAtIXd b d => [0xDD, 0xCB, d, opcode 0x46 (8 * b.toNat)]
  | .resBAtIXd b d => [0xDD, 0xCB, d, opcode 0x86 (8 * b.toNat)]
  | .setBAtIXd b d => [0xDD, 0xCB, d, opcode 0xC6 (8 * b.toNat)]
  | .resBAtIXdR b d s => [0xDD, 0xCB, d, opcode 0x80 (8 * b.toNat + s.code)]
  | .setBAtIXdR b d s => [0xDD, 0xCB, d, opcode 0xC0 (8 * b.toNat + s.code)]
  | .bitBAtIYd b d => [0xFD, 0xCB, d, opcode 0x46 (8 * b.toNat)]
  | .resBAtIYd b d => [0xFD, 0xCB, d, opcode 0x86 (8 * b.toNat)]
  | .setBAtIYd b d => [0xFD, 0xCB, d, opcode 0xC6 (8 * b.toNat)]
  | .resBAtIYdR b d s => [0xFD, 0xCB, d, opcode 0x80 (8 * b.toNat + s.code)]
  | .setBAtIYdR b d s => [0xFD, 0xCB, d, opcode 0xC0 (8 * b.toNat + s.code)]
  | .bslaDEB => [0xED, 0x28]
  | .bsraDEB => [0xED, 0x29]
  | .bsrlDEB => [0xED, 0x2A]
  | .bsrfDEB => [0xED, 0x2B]
  | .brlcDEB => [0xED, 0x2C]
  | .mirrorA => [0xED, 0x24]
  | .swapnib => [0xED, 0x23]
  | .setae => [0xED, 0x95]
  | .jpNN nn => [0xC3, lo nn, hi nn]
  | .jpCondNN cc nn => [opcode 0xC2 (8 * cc.code), lo nn, hi nn]
  | .jpAtHL => [0xE9]
  | .jpAtIX => [0xDD, 0xE9]
  | .jpAtIY => [0xFD, 0xE9]
  | .jpAtC => [0xED, 0x98]
  | .jrE e => [0x18, e]
  | .jrCondE cc e => [opcode 0x20 (8 * cc.code), e]
  | .djnzE e => [0x10, e]
  | .callNN nn => [0xCD, lo nn, hi nn]
  | .callCondNN cc nn => [opcode 0xC4 (8 * cc.code), lo nn, hi nn]
  | .ret => [0xC9]
  | .retCond cc => [opcode 0xC0 (8 * cc.code)]
  | .rstN v => [opcode 0xC7 (8 * v.toNat)]
  | .ldi => [0xED, 0xA0]
  | .ldir => [0xED, 0xB0]
  | .ldd => [0xED, 0xA8]
  | .lddr => [0xED, 0xB8]
  | .cpi => [0xED, 0xA1]
  | .cpir => [0xED, 0xB1]
  | .cpd => [0xED, 0xA9]
  | .cpdr => [0xED, 0xB9]
  | .ldix => [0xED, 0xA4]
  | .ldirx => [0xED, 0xB4]
  | .lddx => [0xED, 0xAC]
  | .lddrx => [0xED, 0xBC]
  | .ldpirx => [0xED, 0xB7]
  | .ldws => [0xED, 0xA5]
  | .inAAtN n => [0xDB, n]
  | .inRAtC t => [0xED, opcode 0x40 (8 * t.code)]
  | .inAtC => [0xED, 0x70]
  | .outAtNA n => [0xD3, n]
  | .outAtCR t => [0xED, opcode 0x41 (8 * t.code)]
  | .outAtCZero => [0xED, 0x71]
  | .ini => [0xED, 0xA2]
  | .inir => [0xED, 0xB2]
  | .ind => [0xED, 0xAA]
  | .indr => [0xED, 0xBA]
  | .outi => [0xED, 0xA3]
  | .otir => [0xED, 0xB3]
  | .outd => [0xED, 0xAB]
  | .otdr => [0xED, 0xBB]
  | .outinb => [0xED, 0x90]
  | .nextregNN g n => [0xED, 0x91, g, n]
  | .nextregNA g => [0xED, 0x92, g]
  | .nop => [0x00]
  | .halt => [0x76]
  | .di => [0xF3]
  | .ei => [0xFB]
  | .im0 => [0xED, 0x46]
  | .im1 => [0xED, 0x56]
  | .im2 => [0xED, 0x5E]
  | .reti => [0xED, 0x4D]
  | .retn => [0xED, 0x45]
  | .pixelad => [0xED, 0x94]
  | .pixeldn => [0xED, 0x93]

/-! ## Words as spec/opcode_table.json numbers them -/

/-- The `n` bytes of `w`, the byte in the most significant position first. -/
def bytesHighFirst (n w : Nat) : List Byte :=
  match n with
  | 0 => []
  | n + 1 => BitVec.ofNat 8 (w / 256 ^ n) :: bytesHighFirst n w

/-- The `n` bytes of `w`, the byte in the least significant position first. -/
def bytesLowFirst (n w : Nat) : List Byte :=
  match n with
  | 0 => []
  | n + 1 => BitVec.ofNat 8 w :: bytesLowFirst n (w / 256)

/-- Operand bytes of zeros, up to the longest instruction (four bytes, R300). -/
def padded (bytes : List Byte) : List Byte := bytes ++ List.replicate (4 - bytes.length) 0

/-- The bytes decode to an instruction of exactly that many bytes. -/
def fillsExactly (bytes : List Byte) : Bool :=
  match decode (padded bytes) with
  | .instr i => (encode i).length == bytes.length
  | .rejected _ => false

/-- The bytes, in memory order, of an instruction given as the number spec/opcode_table.json makes of it. The table
puts the first byte in the most significant position (30_encoding.md, on `match` and `mask`), and its `fixed` and
`fields` number the bits so. A number that is no instruction of that length in this reading, and is one with
the first byte in the least significant position, is read so instead (log 15). -/
def tableBytes (nbits w : Nat) : List Byte :=
  let n := nbits / 8
  if fillsExactly (bytesHighFirst n w) then padded (bytesHighFirst n w)
  else if fillsExactly (bytesLowFirst n w) then padded (bytesLowFirst n w)
  else padded (bytesHighFirst n w)

/-- The instruction the decoder reads from a table word. -/
def decodeTableWord (nbits w : Nat) : Option Instr :=
  match decode (tableBytes nbits w) with
  | .instr i => some i
  | .rejected _ => none

end Sys2Proof
end

