-- ==== Sys2Proof/Config.lean ====
section
/-! DEFINITION. What an implementation or platform fixes (`Platform`, plain data held in State, so that a
statement over all states holds for every value of it) and the free values of 00_scope.md R9: constants with
no body, so that nothing can be proved of what they are (log 4). -/

namespace Sys2Proof

/-- Parameter `out_block_port_b` (92_eei_decisions.md D10, log 10): which `B` the port address of OUTI, OUTD,
OTIR and OTDR carries. -/
inductive OutPortB where
  | before | after
  deriving DecidableEq, Repr

/-- The named parameters of the model that are fixed for one machine (00_scope.md R6). -/
structure Platform where
  /-- `di_delay` = 1 (D9, log 9): DI acts at the end of the instruction that follows it. -/
  diDelay : Bool
  /-- `out_block_port_b` (D10, log 10). -/
  outPortB : OutPortB
  /-- The two readings of bits 5 and 3 of `F` after `ADD HL,A`, `ADD DE,A` and `ADD BC,A` (log 17): kept (R558's own
  words), or drawn as after every other instruction that writes a flag (R102, D3, U1). -/
  addAKeepsUnnamed : Bool
  /-- The complement of `MemMap.writable` (D6, log 8): ranges, both ends included, that no write reaches. -/
  rom : List (Nat × Nat)
  deriving DecidableEq, Repr

/-- The spec's defaults: `di_delay` = 0, `before`, all 65,536 bytes RAM (92_eei_decisions.md, table of parameters); and
bits 5 and 3 of `F` drawn after `ADD rr,A`, the reading that promises less (DESIGN CHOICE, log 17). -/
def Platform.default : Platform := { diDelay := false, outPortB := .before, addAKeepsUnnamed := false, rom := [] }

namespace Config

/-- The n-th one-bit draw (R9, log 4). Nothing is known of it. -/
opaque freeBit : Nat → Bool

/-- The n-th eight-bit draw (R9, log 4). Nothing is known of it. -/
opaque freeByte : Nat → Byte

/-- What a device answers to a port read for which no answer is listed: by the number of the draw and the
port address (20_memory.md R201, log 5). Nothing is known of it. -/
opaque freePort : Nat → Word → Byte

end Config
end Sys2Proof
end

