-- ==== Sys2Proof/Machine/State.lean ====
section
/-! DEFINITION. The machine's state as plain data: everything 10_state.md R113 lists, the parameters of
00_scope.md R6 as data, the observable events, and the counter of free values; the reasons a step can stop;
the state after reset. -/

namespace Sys2Proof.Machine

/-- The flag register `F`, bit by bit (R102): SF 7, ZF 6, bit 5, HF 4, bit 3, PV 2, NF 1, CF 0. Nothing is lost
by naming the bits (`Flags.ofByte_toByte`, `Flags.toByte_ofByte`), and a bit that is a free value leaves the
others computable (log 14). -/
structure Flags where
  sf : Bool
  zf : Bool
  f5 : Bool
  hf : Bool
  f3 : Bool
  pv : Bool
  nf : Bool
  cf : Bool
  deriving DecidableEq, Repr

/-- The interrupt mode (R110). -/
inductive IntMode where
  | im0 | im1 | im2
  deriving DecidableEq, Repr

/-- What is asserted at one instruction boundary (R901, R902, log 6): reset, NMI, INT, and the byte that an
accepted INT finds on the bus. -/
structure Boundary where
  reset : Bool
  nmi : Bool
  int : Bool
  bus : Byte
  deriving DecidableEq, Repr

/-- Nothing asserted. -/
def Boundary.quiet : Boundary := { reset := false, nmi := false, int := false, bus := 0xFF }

/-- An observable event (R8, R201, R202). -/
inductive Event where
  | portRead (port : Word) (value : Byte)
  | portWrite (port : Word) (value : Byte)
  | nextRegWrite (reg : Byte) (value : Byte)
  deriving DecidableEq, Repr

/-- The 64 KiB space (R200): the bytes that do not read as an unlisted one does, addresses strictly rising
(Machine/Memory.lean). -/
abbrev Memory := List Host.Cell

/-- The machine. -/
structure State where
  /-- The registers of R100 and the flag register. -/
  a : Byte
  f : Flags
  b : Byte
  c : Byte
  d : Byte
  e : Byte
  h : Byte
  l : Byte
  /-- The shadow registers (R104). -/
  a' : Byte
  f' : Flags
  b' : Byte
  c' : Byte
  d' : Byte
  e' : Byte
  h' : Byte
  l' : Byte
  /-- The index registers (R103), the stack pointer (R105), the program counter (R106). -/
  ix : Word
  iy : Word
  sp : Word
  pc : Word
  /-- The interrupt vector register (R107) and the refresh register (R108). -/
  i : Byte
  r : Byte
  /-- The interrupt flip-flops (R109) and the interrupt mode (R110). -/
  iff1 : Bool
  iff2 : Bool
  im : IntMode
  /-- The hidden bits of R112: `halted`, `int_inhibit`, `di_pending`. -/
  halted : Bool
  intInhibit : Bool
  diPending : Bool
  /-- Memory (R200). -/
  mem : Memory
  /-- The parameters fixed for one machine (R6). -/
  cfg : Platform
  /-- `IntSource`: what is asserted at the coming boundaries, the next one first; past its end, nothing (log 6). -/
  intSource : List Boundary
  /-- `PortIn`: the answers to the coming port reads, the next one first; past its end, free values (log 5). -/
  portIn : List Byte
  /-- The events so far, the oldest first (log 12). -/
  events : List Event
  /-- The MODEL's own: how many free values have been taken (R9, log 4). -/
  draws : Nat
  deriving DecidableEq, Repr

/-- The hardware raises no fault of any kind (60_exceptions.md R900, 93_implementation_defined.md: "Nothing in
this hardware is treated as `fault`"), so there is no way to end in one. Safe: the type is empty. -/
inductive Fault where
  deriving DecidableEq, Repr

/-- Where the spec gives no meaning and tells the model to refuse (R8). -/
inductive Refusal where
  /-- An instruction without a meaning, raised by `exec`'s arm alone. Safe: the machine stops. No arm raises it. -/
  | notModelled (mnemonic : String)
  /-- A reserved encoding (R313, D2), raised by `step` when the decoder rejects the bytes at `PC`. Safe: the
  machine stops where hardware goes on in a way the spec does not give. -/
  | reservedEncoding (why : DecodeError)
  /-- An INT accepted in mode 0 with a bus byte that is no RST opcode (R904, D27), raised by taking the
  interrupt. Safe: the machine stops where hardware goes on in a way the spec does not give. -/
  | mode0BusByte (bus : Byte)
  deriving DecidableEq, Repr

/-- The outcome of one instruction or step. -/
abbrev Result := Host.Outcome State Fault Refusal

/-- All eight bits 0. -/
def Flags.zero : Flags :=
  { sf := false, zf := false, f5 := false, hf := false, f3 := false, pv := false, nf := false, cf := false }

/-- The machine right after reset (R114, R950). `PC`, `I`, `R`, `IFF1`, `IFF2`, `IM`, `halted`, `int_inhibit` and
`di_pending` are the spec's; the registers the spec leaves unspecified are 0 (DESIGN CHOICE, log 2); memory
lists nothing (log 1); the parameters are the spec's defaults (logs 6, 8, 9, 10). -/
def State.reset : State :=
  { a := 0, f := Flags.zero, b := 0, c := 0, d := 0, e := 0, h := 0, l := 0
    a' := 0, f' := Flags.zero, b' := 0, c' := 0, d' := 0, e' := 0, h' := 0, l' := 0
    ix := 0, iy := 0, sp := 0, pc := 0x0000, i := 0x00, r := 0x00
    iff1 := false, iff2 := false, im := .im0
    halted := false, intInhibit := false, diPending := false
    mem := [], cfg := Platform.default, intSource := [], portIn := [], events := [], draws := 0 }

end Sys2Proof.Machine
end

