-- ==== Sys2Proof/Machine/Memory.lean ====
section
/-! DEFINITION. Memory as a canonical list of cells: reading and writing one byte (20_memory.md R200, R212). -/

namespace Sys2Proof.Machine

/-- What an unlisted address reads as: `MemMap.initial`, which the spec leaves open (D6), is $00 everywhere
(DESIGN CHOICE, log 1). -/
def unlisted : Byte := 0

/-- The byte at an address. -/
def Memory.read : Memory → Nat → Byte
  | [], _ => unlisted
  | (b, v) :: m, a => if a = b then v else Memory.read m a

/-- Put a cell before the cells of higher addresses, leaving it out where it says what an unlisted address says. -/
def Memory.cons (a : Nat) (v : Byte) (m : Memory) : Memory :=
  if v = unlisted then m else (a, v) :: m

/-- Store a byte, keeping the canonical form. -/
def Memory.write : Memory → Nat → Byte → Memory
  | [], a, v => Memory.cons a v []
  | (b, w) :: m, a, v =>
    if a < b then Memory.cons a v ((b, w) :: m)
    else if a = b then Memory.cons a v m
    else (b, w) :: Memory.write m a v

/-- The cells lie at strictly rising addresses from `n` up, inside the 64 KiB space, and none reads as an unlisted
one does. -/
def Memory.wfFrom : Nat → Memory → Bool
  | _, [] => true
  | n, (a, v) :: m => decide (n ≤ a) && decide (a < 2 ^ 16) && decide (v ≠ unlisted) && Memory.wfFrom (a + 1) m

/-- The canonical form, so that equal memories are equal lists. -/
def Memory.wf (m : Memory) : Bool := Memory.wfFrom 0 m

end Sys2Proof.Machine
end

