-- ==== Sys2Proof/Machine/Ops.lean ====
section
/-! DEFINITION. The shared operations: memory accesses, the program counter, free values, ports and events, the
stack, taking an interrupt or a reset and returning from an interrupt, fetching, and what surrounds one
instruction (00_scope.md R8, R9, 20_memory.md, 60_exceptions.md). -/

namespace Sys2Proof.Machine

/-! ## Memory (R8, R200 to R206) -/

/-- `MemMap.writable` (R210, D6): the address lies in no read-only range. -/
def writable (cfg : Platform) (a : Word) : Bool :=
  !cfg.rom.any fun r => decide (r.1 ≤ a.toNat) && decide (a.toNat ≤ r.2)

/-- `MemRead(a, 1)`. -/
def State.read (s : State) (a : Word) : Byte := s.mem.read a.toNat

/-- `MemWrite(a, 1, v)`: dropped silently where the address is not writable (R210, U18). -/
def State.write (s : State) (a : Word) (v : Byte) : State :=
  { s with mem := if writable s.cfg a then s.mem.write a.toNat v else s.mem }

/-- `MemRead(a, 2)`: the low byte at the lower address (R203), addresses mod 2^16 (R206). -/
def State.read16 (s : State) (a : Word) : Word := join (s.read (a + 1)) (s.read a)

/-- `MemWrite(a, 2, v)`: the low byte at `a`, then the high byte at `a + 1` (R8, R204). -/
def State.write16 (s : State) (a : Word) (v : Word) : State := (s.write a (lo v)).write (a + 1) (hi v)

/-! ## The program counter (R106) -/

/-- `PC <- target`. -/
def State.goto (s : State) (target : Word) : State := { s with pc := target }

/-- `npc` of an instruction of `n` bytes at `PC` (R8, R106). -/
def State.npc (s : State) (n : Nat) : Word := s.pc + BitVec.ofNat 16 n

/-- `PC <- npc` for an instruction of `n` bytes. -/
def State.advance (s : State) (n : Nat) : State := s.goto (s.npc n)

/-! ## Free values (R9, log 4) -/

/-- The next one-bit draw. -/
def State.drawnBit (s : State) : Bool := Config.freeBit s.draws

/-- The next eight-bit draw. -/
def State.drawnByte (s : State) : Byte := Config.freeByte s.draws

/-- `n` draws have been taken. -/
def State.drew (s : State) (n : Nat) : State := { s with draws := s.draws + n }

/-! ## Ports and Next registers (R201, R202, D12) -/

/-- Log an observable event. -/
def State.event (s : State) (e : Event) : State := { s with events := s.events ++ [e] }

/-- The byte that a read of port `p` returns now: the next listed answer, or a free value (log 5). -/
def State.portAnswer (s : State) (p : Word) : Byte :=
  match s.portIn with
  | v :: _ => v
  | [] => Config.freePort s.draws p

/-- The event and the used-up answer of `PortRead(p)`. -/
def State.portRead (s : State) (p : Word) : State :=
  { s with
    portIn := s.portIn.tail
    draws := s.draws + 1
    events := s.events ++ [.portRead p (s.portAnswer p)] }

/-- `PortWrite(p, v)`. -/
def State.portWrite (s : State) (p : Word) (v : Byte) : State := s.event (.portWrite p v)

/-- `NextRegWrite(g, v)`. -/
def State.nextRegWrite (s : State) (g : Byte) (v : Byte) : State := s.event (.nextRegWrite g v)

/-! ## The stack (R8, R105, R230) -/

/-- `Push(v)`: high byte at `SP - 1`, then low byte at `SP - 2`. -/
def State.push (s : State) (v : Word) : State :=
  ({ s with sp := s.sp - 2 }.write (s.sp - 1) (hi v)).write (s.sp - 2) (lo v)

/-- The value `Pop()` returns. -/
def State.top (s : State) : Word := join (s.read (s.sp + 1)) (s.read s.sp)

/-- What `Pop()` does to `SP`. -/
def State.popped (s : State) : State := { s with sp := s.sp + 2 }

/-! ## Taking an interrupt, and returning (60_exceptions.md) -/

/-- Save the given return address on the stack and continue at `target`: the one way in of every interrupt, call
and restart (R709, R713, R903 to R908). -/
def State.enter (s : State) (ret target : Word) : State := (s.push ret).goto target

/-- `PC <- Pop()`: the one way back (R711, R855, R856). -/
def State.leave (s : State) : State := s.popped.goto s.top

/-- What an accepted maskable interrupt does before the response of its mode (R903). -/
def State.acknowledged (s : State) : State :=
  { s with halted := false, iff1 := false, iff2 := false, diPending := false, intInhibit := false }

/-- The byte is an RST opcode, `11ttt111` (R904). -/
def isRst (bus : Byte) : Bool := bus &&& 0xC7 == 0xC7

/-- Maskable interrupt acceptance (R903) with the response of mode 0 (R904), 1 (R905) or 2 (R906). -/
def State.acceptInt (s : State) (bus : Byte) : Result :=
  let s := s.acknowledged
  match s.im with
  | .im0 => if isRst bus then .next (s.enter s.pc (zext16 (bus &&& 0x38))) else .refused (.mode0BusByte bus)
  | .im1 => .next (s.enter s.pc 0x0038)
  | .im2 =>
    let s' := s.push s.pc
    .next (s'.goto (s'.read16 (join s.i bus)))

/-- Non-maskable interrupt acceptance (R908). -/
def State.acceptNmi (s : State) : State :=
  { s with halted := false, iff2 := s.iff2 && !s.diPending, diPending := false, iff1 := false,
           intInhibit := false }.enter s.pc 0x0066

/-- Eight draws as flags, from the one at counter `n`. -/
def Flags.drawn (n : Nat) : Flags :=
  { sf := Config.freeBit n, zf := Config.freeBit (n + 1), f5 := Config.freeBit (n + 2),
    hf := Config.freeBit (n + 3), f3 := Config.freeBit (n + 4), pv := Config.freeBit (n + 5),
    nf := Config.freeBit (n + 6), cf := Config.freeBit (n + 7) }

/-- Reset asserted during a run (R950): the registers that the spec gives a value take it, every other register is
a draw; memory, parameters and the outside world are not the CPU's and stay (log 13). -/
def State.acceptReset (s : State) : State :=
  let n := s.draws
  { s with
    pc := 0x0000, i := 0x00, r := 0x00, iff1 := false, iff2 := false, im := .im0
    halted := false, intInhibit := false, diPending := false
    a := Config.freeByte n, f := Flags.drawn (n + 1), b := Config.freeByte (n + 9), c := Config.freeByte (n + 10)
    d := Config.freeByte (n + 11), e := Config.freeByte (n + 12), h := Config.freeByte (n + 13)
    l := Config.freeByte (n + 14)
    a' := Config.freeByte (n + 15), f' := Flags.drawn (n + 16), b' := Config.freeByte (n + 24)
    c' := Config.freeByte (n + 25), d' := Config.freeByte (n + 26), e' := Config.freeByte (n + 27)
    h' := Config.freeByte (n + 28), l' := Config.freeByte (n + 29)
    ix := join (Config.freeByte (n + 30)) (Config.freeByte (n + 31))
    iy := join (Config.freeByte (n + 32)) (Config.freeByte (n + 33))
    sp := join (Config.freeByte (n + 34)) (Config.freeByte (n + 35))
    draws := n + 36 }

/-! ## The instruction boundary (R902, R907) -/

/-- What is asserted at this boundary: the next entry of `IntSource`, nothing past its end (log 6). -/
def State.asserted (s : State) : Boundary := s.intSource.headD Boundary.quiet

/-- The boundary's entry of `IntSource` is used up. -/
def State.sampled (s : State) : State := { s with intSource := s.intSource.tail }

/-- What a boundary leads to: an event is taken (or refused), the CPU stays halted, or an instruction is fetched.
Reset, then NMI, then an INT that `IFF1` and `int_inhibit` let through (R902, R907). Taking an event is a
step of its own (log 7). -/
def State.boundary (s : State) : Option Result :=
  let q := s.asserted
  if q.reset then some (.next s.sampled.acceptReset)
  else if q.nmi then some (.next s.sampled.acceptNmi)
  else if q.int && s.iff1 && !s.intInhibit then some (s.sampled.acceptInt q.bus)
  else if s.halted then some (.next s.sampled)
  else none

/-! ## Around one instruction -/

/-- The longest instruction's bytes from `PC` on, addresses mod 2^16 (R300, R312). -/
def State.fetch (s : State) : List Byte :=
  [s.read s.pc, s.read (s.pc + 1), s.read (s.pc + 2), s.read (s.pc + 3)]

/-- The state in which an instruction executes: its boundary is past, and the `int_inhibit` and `di_pending` of the
instruction before it end with it (R852, R853). They are cleared before it executes, so that an EI or a DI
sets them again (log 11). -/
def State.begin (s : State) : State := { s.sampled with intInhibit := false, diPending := false }

/-- The end of an instruction that a delayed DI preceded: the flip-flops are cleared (R852). -/
def State.finish (s : State) (diWasPending : Bool) : State :=
  { s with iff1 := s.iff1 && !diWasPending, iff2 := s.iff2 && !diWasPending }

/-- `finish` after the outcome of an instruction. -/
def finishing (diWasPending : Bool) : Result → Result
  | .next s => .next (s.finish diWasPending)
  | .fault r => .fault r
  | .refused r => .refused r

/-! ## Loading bytes from outside the machine (log 16) -/

/-- Place bytes in memory from address `a` up, whatever the memory map says of CPU writes. -/
def State.place (s : State) (a : Word) : List Byte → State
  | [] => s
  | v :: vs => { s with mem := s.mem.write a.toNat v }.place (a + 1) vs

/-- The bytes of an instruction placed at `PC`, to be fetched by the very next step. -/
def State.loaded (s : State) (bytes : List Byte) : State :=
  { s.place s.pc bytes with halted := false, intSource := Boundary.quiet :: s.intSource }

end Sys2Proof.Machine
end

