-- ==== Sys2Proof/Machine/Flags.lean ====
section
/-! DEFINITION. The flag register as a byte, writing it, and every flag computation of 10_state.md R120 to R128:
exact arithmetic on unbounded integers, narrowed at the end. -/

namespace Sys2Proof.Machine

/-! ## `F` as a byte (R101, R102) -/

/-- The eight bits of `F`, SF in bit 7 to CF in bit 0 (R102). -/
def Flags.toByte (f : Flags) : Byte :=
  BitVec.ofNat 8 (128 * f.sf.toNat + 64 * f.zf.toNat + 32 * f.f5.toNat + 16 * f.hf.toNat + 8 * f.f3.toNat
    + 4 * f.pv.toNat + 2 * f.nf.toNat + f.cf.toNat)

/-- `F <- v`, all eight bits exactly (R431). -/
def Flags.ofByte (v : Byte) : Flags :=
  { sf := v.getLsbD 7, zf := v.getLsbD 6, f5 := v.getLsbD 5, hf := v.getLsbD 4
    f3 := v.getLsbD 3, pv := v.getLsbD 2, nf := v.getLsbD 1, cf := v.getLsbD 0 }

/-! ## Writing `F` (R128) -/

/-- The six named flags. -/
structure Named where
  sf : Bool
  zf : Bool
  hf : Bool
  pv : Bool
  nf : Bool
  cf : Bool
  deriving DecidableEq, Repr

/-- The named flags as they stand, to be changed in part. -/
def Flags.named (f : Flags) : Named :=
  { sf := f.sf, zf := f.zf, hf := f.hf, pv := f.pv, nf := f.nf, cf := f.cf }

/-- `F <- flags(SF, ZF, HF, PV, NF, CF)`: bits 5 and 3 become draws (R128, U1). -/
def State.setFlags (s : State) (n : Named) : State :=
  { s with
    f := { sf := n.sf, zf := n.zf, f5 := Config.freeBit s.draws, hf := n.hf
           f3 := Config.freeBit (s.draws + 1), pv := n.pv, nf := n.nf, cf := n.cf }
    draws := s.draws + 2 }

/-- `F` becomes eight draws (U6, U7). -/
def State.freeFlags (s : State) : State := { s with f := Flags.drawn s.draws, draws := s.draws + 8 }

/-! ## Flag computations -/

/-- `parity(v)`: an even number of 1 bits (R120). -/
def parity (v : Byte) : Bool :=
  !((v.getLsbD 0 ^^ v.getLsbD 1) ^^ (v.getLsbD 2 ^^ v.getLsbD 3) ^^
    ((v.getLsbD 4 ^^ v.getLsbD 5) ^^ (v.getLsbD 6 ^^ v.getLsbD 7)))

/-- `ADD8(a, b, cin)` (R121). -/
def add8 (a b : Byte) (cin : Bool) : Byte × Named :=
  let r := a.toNat + b.toNat + cin.toNat
  let res : Byte := BitVec.ofNat 8 r
  (res,
    { sf := res.msb, zf := res == 0
      hf := decide (a.toNat % 16 + b.toNat % 16 + cin.toNat > 0x0F)
      pv := a.msb == b.msb && res.msb != a.msb
      nf := false, cf := decide (r > 0xFF) })

/-- `SUB8(a, b, cin)` (R122). -/
def sub8 (a b : Byte) (cin : Bool) : Byte × Named :=
  let r : Int := a.toNat - b.toNat - cin.toNat
  let res : Byte := BitVec.ofInt 8 r
  (res,
    { sf := res.msb, zf := res == 0
      hf := decide (a.toNat % 16 < b.toNat % 16 + cin.toNat)
      pv := a.msb != b.msb && res.msb != a.msb
      nf := true, cf := decide (r < 0) })

/-- `LOGIC(res, h)` (R123). -/
def logic (res : Byte) (h : Bool) : Named :=
  { sf := res.msb, zf := res == 0, hf := h, pv := parity res, nf := false, cf := false }

/-- `INC8(v)`, with the carry flag as it stands (R124). -/
def inc8 (v : Byte) (cf : Bool) : Byte × Named :=
  let res := v + 1
  (res, { sf := res.msb, zf := res == 0, hf := v.toNat % 16 == 0x0F, pv := v == 0x7F, nf := false, cf := cf })

/-- `DEC8(v)`, with the carry flag as it stands (R124). -/
def dec8 (v : Byte) (cf : Bool) : Byte × Named :=
  let res := v - 1
  (res, { sf := res.msb, zf := res == 0, hf := v.toNat % 16 == 0x00, pv := v == 0x80, nf := true, cf := cf })

/-- `ADD16(a, b)`, with the flags as they stand (R125). -/
def add16 (a b : Word) (old : Named) : Word × Named :=
  let r := a.toNat + b.toNat
  (BitVec.ofNat 16 r,
    { old with hf := decide (a.toNat % 0x1000 + b.toNat % 0x1000 > 0x0FFF), nf := false
               cf := decide (r > 0xFFFF) })

/-- `ADC16(a, b, cin)` (R126). -/
def adc16 (a b : Word) (cin : Bool) : Word × Named :=
  let r := a.toNat + b.toNat + cin.toNat
  let res : Word := BitVec.ofNat 16 r
  (res,
    { sf := res.msb, zf := res == 0
      hf := decide (a.toNat % 0x1000 + b.toNat % 0x1000 + cin.toNat > 0x0FFF)
      pv := a.msb == b.msb && res.msb != a.msb
      nf := false, cf := decide (r > 0xFFFF) })

/-- `SBC16(a, b, cin)` (R126). -/
def sbc16 (a b : Word) (cin : Bool) : Word × Named :=
  let r : Int := a.toNat - b.toNat - cin.toNat
  let res : Word := BitVec.ofInt 16 r
  (res,
    { sf := res.msb, zf := res == 0
      hf := decide (a.toNat % 0x1000 < b.toNat % 0x1000 + cin.toNat)
      pv := a.msb != b.msb && res.msb != a.msb
      nf := true, cf := decide (r < 0) })

/-- `SHIFT(res, cout)` (R127). -/
def shiftFlags (res : Byte) (cout : Bool) : Named :=
  { sf := res.msb, zf := res == 0, hf := false, pv := parity res, nf := false, cf := cout }

end Sys2Proof.Machine
end

