-- ==== Sys2Proof/Machine/Operands.lean ====
section
/-! DEFINITION. Every operand form: registers, register pairs, index registers and their halves, indexed
addresses, conditions (10_state.md R100 to R105, 20_memory.md R207, 44_control_transfer.md R700, 46_io.md R817). -/

namespace Sys2Proof.Machine

/-! ## 8-bit registers (R100, R301) -/

/-- `x[k]`. -/
def State.get (s : State) : Reg8 → Byte
  | .b => s.b
  | .c => s.c
  | .d => s.d
  | .e => s.e
  | .h => s.h
  | .l => s.l
  | .a => s.a

/-- `x[k] <- v`. -/
def State.set (s : State) (k : Reg8) (v : Byte) : State :=
  { s with
    b := if k = .b then v else s.b
    c := if k = .c then v else s.c
    d := if k = .d then v else s.d
    e := if k = .e then v else s.e
    h := if k = .h then v else s.h
    l := if k = .l then v else s.l
    a := if k = .a then v else s.a }

/-! ## Register pairs (R101, R302) -/

/-- `BC = B ++ C`. -/
def State.bc (s : State) : Word := join s.b s.c

/-- `DE = D ++ E`. -/
def State.de (s : State) : Word := join s.d s.e

/-- `HL = H ++ L`. -/
def State.hl (s : State) : Word := join s.h s.l

/-- `AF = A ++ F`. -/
def State.af (s : State) : Word := join s.a s.f.toByte

/-- `BC <- v`: both halves. -/
def State.setBC (s : State) (v : Word) : State := { s with b := hi v, c := lo v }

/-- `DE <- v`. -/
def State.setDE (s : State) (v : Word) : State := { s with d := hi v, e := lo v }

/-- `HL <- v`. -/
def State.setHL (s : State) (v : Word) : State := { s with h := hi v, l := lo v }

/-- `AF <- v`: `F` takes all eight low bits exactly. -/
def State.setAF (s : State) (v : Word) : State := { s with a := hi v, f := Flags.ofByte (lo v) }

/-- `SP <- v`. -/
def State.setSP (s : State) (v : Word) : State := { s with sp := v }

/-- `xx[q]` of table RP. -/
def State.pair (s : State) : Pair → Word
  | .bc => s.bc
  | .de => s.de
  | .hl => s.hl
  | .sp => s.sp

/-- `xx[q] <- v` of table RP. -/
def State.setPair (s : State) (q : Pair) (v : Word) : State :=
  match q with
  | .bc => s.setBC v
  | .de => s.setDE v
  | .hl => s.setHL v
  | .sp => s.setSP v

/-- `xx2[q]` of table RP2. -/
def State.pairAF (s : State) : PairAF → Word
  | .bc => s.bc
  | .de => s.de
  | .hl => s.hl
  | .af => s.af

/-- `xx2[q] <- v` of table RP2. -/
def State.setPairAF (s : State) (q : PairAF) (v : Word) : State :=
  match q with
  | .bc => s.setBC v
  | .de => s.setDE v
  | .hl => s.setHL v
  | .af => s.setAF v

/-! ## Index registers (R103, R207, R551) -/

/-- `IX` or `IY`. -/
def State.index (s : State) : IndexReg → Word
  | .ix => s.ix
  | .iy => s.iy

/-- `IX <- v` or `IY <- v`. -/
def State.setIndex (s : State) (p : IndexReg) (v : Word) : State :=
  { s with ix := if p = .ix then v else s.ix, iy := if p = .iy then v else s.iy }

/-- `IXH`, `IXL`, `IYH` or `IYL`. -/
def State.half (s : State) (p : IndexReg) : Half → Byte
  | .high => hi (s.index p)
  | .low => lo (s.index p)

/-- Write a half; the other half is unchanged. -/
def State.setHalf (s : State) (p : IndexReg) (k : Half) (v : Byte) : State :=
  match k with
  | .high => s.setIndex p (join v (lo (s.index p)))
  | .low => s.setIndex p (join (hi (s.index p)) v)

/-- The source of `ADD IX,rr` and `ADD IY,rr`: code 2 is the index register itself. -/
def State.pairXY (s : State) (p : IndexReg) : PairXY → Word
  | .bc => s.bc
  | .de => s.de
  | .xy => s.index p
  | .sp => s.sp

/-- The address of `(IX+d)` or `(IY+d)` (R207). -/
def State.indexed (s : State) (p : IndexReg) (d : Byte) : Word := s.index p + sext16 d

/-! ## Read, compute, write back (R500, R604, R613, R616 to R619) -/

/-- `x[t] <- res; F <- fl` for an operation on the operand and `CF`. -/
def State.modifyReg (s : State) (op : Byte → Bool → Byte × Named) (t : Reg8) : State :=
  let r := op (s.get t) s.f.cf
  (s.set t r.1).setFlags r.2

/-- The same on a half of an index register. -/
def State.modifyHalf (s : State) (op : Byte → Bool → Byte × Named) (p : IndexReg) (k : Half) : State :=
  let r := op (s.half p k) s.f.cf
  (s.setHalf p k r.1).setFlags r.2

/-- The same on a memory byte: one read, one write of the same address. -/
def State.modifyAt (s : State) (op : Byte → Bool → Byte × Named) (a : Word) : State :=
  let r := op (s.read a) s.f.cf
  (s.write a r.1).setFlags r.2

/-- The same, a register receiving a copy of the result (R613). -/
def State.modifyAtCopy (s : State) (op : Byte → Bool → Byte × Named) (a : Word) (t : Reg8) : State :=
  let r := op (s.read a) s.f.cf
  ((s.write a r.1).set t r.1).setFlags r.2

/-- `x[t] <- f(x[t])`, no flag written. -/
def State.mapReg (s : State) (f : Byte → Byte) (t : Reg8) : State := s.set t (f (s.get t))

/-- The same on a memory byte. -/
def State.mapAt (s : State) (f : Byte → Byte) (a : Word) : State := s.write a (f (s.read a))

/-- The same, a register receiving a copy of the result (R619). -/
def State.mapAtCopy (s : State) (f : Byte → Byte) (a : Word) (t : Reg8) : State :=
  (s.write a (f (s.read a))).set t (f (s.read a))

/-! ## Conditions (R700) -/

/-- `cond(c)`. -/
def State.cond (s : State) : Cond → Bool
  | .nz => !s.f.zf
  | .z => s.f.zf
  | .nc => !s.f.cf
  | .c => s.f.cf
  | .po => !s.f.pv
  | .pe => s.f.pv
  | .p => !s.f.sf
  | .m => s.f.sf

/-! ## Port addresses (R817) -/

/-- The port that `(n)` names: `A ++ n`. -/
def State.portN (s : State) (n : Byte) : Word := join s.a n

end Sys2Proof.Machine
end

