-- ==== Sys2Proof/Machine/Arith16.lean ====
section
/-! DEFINITION. 16-bit arithmetic (42_arith16.md). -/

namespace Sys2Proof.Machine

/-- `rr <- res; F <- fl` for the pair `HL`. -/
def State.accumulateHL (s : State) (r : Word × Named) : State := (s.setHL r.1).setFlags r.2

/-- `ADD HL,rr` (R550). -/
def execAddHLRR (q : Pair) (s : State) : Result :=
  .next ((s.accumulateHL (add16 s.hl (s.pair q) s.f.named)).advance 1)

/-- `ADD IX,rr` (R551). -/
def execAddIXRR (q : PairXY) (s : State) : Result :=
  let r := add16 s.ix (s.pairXY .ix q) s.f.named
  .next (((s.setIndex .ix r.1).setFlags r.2).advance 2)

/-- `ADD IY,rr` (R551). -/
def execAddIYRR (q : PairXY) (s : State) : Result :=
  let r := add16 s.iy (s.pairXY .iy q) s.f.named
  .next (((s.setIndex .iy r.1).setFlags r.2).advance 2)

/-- `ADC HL,rr` (R552). -/
def execAdcHLRR (q : Pair) (s : State) : Result := .next ((s.accumulateHL (adc16 s.hl (s.pair q) s.f.cf)).advance 2)

/-- `SBC HL,rr` (R553). -/
def execSbcHLRR (q : Pair) (s : State) : Result := .next ((s.accumulateHL (sbc16 s.hl (s.pair q) s.f.cf)).advance 2)

/-- `INC rr` (R554). -/
def execIncRR (q : Pair) (s : State) : Result := .next ((s.setPair q (s.pair q + 1)).advance 1)

/-- `DEC rr` (R556). -/
def execDecRR (q : Pair) (s : State) : Result := .next ((s.setPair q (s.pair q - 1)).advance 1)

/-- `INC IX` (R555). -/
def execIncIX (s : State) : Result := .next ((s.setIndex .ix (s.ix + 1)).advance 2)

/-- `INC IY` (R555). -/
def execIncIY (s : State) : Result := .next ((s.setIndex .iy (s.iy + 1)).advance 2)

/-- `DEC IX` (R557). -/
def execDecIX (s : State) : Result := .next ((s.setIndex .ix (s.ix - 1)).advance 2)

/-- `DEC IY` (R557). -/
def execDecIY (s : State) : Result := .next ((s.setIndex .iy (s.iy - 1)).advance 2)

/-- The flags of `ADD rr,A`: `CF` becomes a draw (R558, D19), the other named flags stay. Bits 5 and 3 become draws as
after every write of a flag (R102, R128, D3), or stay as R558 says: `addAKeepsUnnamed` (log 17). -/
def State.freeCarry (s : State) : State :=
  { s with
    f := { s.f with
           f5 := if s.cfg.addAKeepsUnnamed then s.f.f5 else Config.freeBit (s.draws + 1)
           f3 := if s.cfg.addAKeepsUnnamed then s.f.f3 else Config.freeBit (s.draws + 2)
           cf := s.drawnBit }
    draws := s.draws + 3 }

/-- `ADD HL,A` (R558). -/
def execAddHLA (s : State) : Result := .next (((s.setHL (s.hl + zext16 s.a)).freeCarry).advance 2)

/-- `ADD DE,A` (R558). -/
def execAddDEA (s : State) : Result := .next (((s.setDE (s.de + zext16 s.a)).freeCarry).advance 2)

/-- `ADD BC,A` (R558). -/
def execAddBCA (s : State) : Result := .next (((s.setBC (s.bc + zext16 s.a)).freeCarry).advance 2)

/-- `ADD HL,nn` (R559). -/
def execAddHLNN (nn : Word) (s : State) : Result := .next ((s.setHL (s.hl + nn)).advance 4)

/-- `ADD DE,nn` (R559). -/
def execAddDENN (nn : Word) (s : State) : Result := .next ((s.setDE (s.de + nn)).advance 4)

/-- `ADD BC,nn` (R559). -/
def execAddBCNN (nn : Word) (s : State) : Result := .next ((s.setBC (s.bc + nn)).advance 4)

/-- `MUL D,E` (R560). -/
def execMulDE (s : State) : Result := .next ((s.setDE (zext16 s.d * zext16 s.e)).advance 2)

end Sys2Proof.Machine
end

