-- ==== Sys2Proof/Machine/Arith8.lean ====
section
/-! DEFINITION. 8-bit arithmetic and logic (41_arith8_logic.md). -/

namespace Sys2Proof.Machine

/-! ## Accumulator operations -/

/-- `A <- res; F <- fl`. -/
def State.accumulate (s : State) (r : Byte × Named) : State := (s.set .a r.1).setFlags r.2

/-- `ADD A,v` (R501). -/
def State.addA (s : State) (v : Byte) : State := s.accumulate (add8 s.a v false)

/-- `ADC A,v` (R502). -/
def State.adcA (s : State) (v : Byte) : State := s.accumulate (add8 s.a v s.f.cf)

/-- `SUB v` (R503). -/
def State.subA (s : State) (v : Byte) : State := s.accumulate (sub8 s.a v false)

/-- `SBC A,v` (R504). -/
def State.sbcA (s : State) (v : Byte) : State := s.accumulate (sub8 s.a v s.f.cf)

/-- `AND v` (R505). -/
def State.andA (s : State) (v : Byte) : State := s.accumulate (s.a &&& v, logic (s.a &&& v) true)

/-- `XOR v` (R506). -/
def State.xorA (s : State) (v : Byte) : State := s.accumulate (s.a ^^^ v, logic (s.a ^^^ v) false)

/-- `OR v` (R507). -/
def State.orA (s : State) (v : Byte) : State := s.accumulate (s.a ||| v, logic (s.a ||| v) false)

/-- `CP v` (R508): the flags of SUB; `A` keeps its value. -/
def State.cpA (s : State) (v : Byte) : State := s.setFlags (sub8 s.a v false).2

/-- `ADD A,r` (R501). -/
def execAddAR (r : Reg8) (s : State) : Result := .next ((s.addA (s.get r)).advance 1)

/-- `ADD A,n` (R501). -/
def execAddAN (n : Byte) (s : State) : Result := .next ((s.addA n).advance 2)

/-- `ADD A,(HL)` (R501). -/
def execAddAAtHL (s : State) : Result := .next ((s.addA (s.read s.hl)).advance 1)

/-- `ADD A,(IX+d)` (R501). -/
def execAddAAtIXd (d : Byte) (s : State) : Result := .next ((s.addA (s.read (s.indexed .ix d))).advance 3)

/-- `ADD A,(IY+d)` (R501). -/
def execAddAAtIYd (d : Byte) (s : State) : Result := .next ((s.addA (s.read (s.indexed .iy d))).advance 3)

/-- `ADD A,IXH` (R501). -/
def execAddAIXH (s : State) : Result := .next ((s.addA (s.half .ix .high)).advance 2)

/-- `ADD A,IXL` (R501). -/
def execAddAIXL (s : State) : Result := .next ((s.addA (s.half .ix .low)).advance 2)

/-- `ADD A,IYH` (R501). -/
def execAddAIYH (s : State) : Result := .next ((s.addA (s.half .iy .high)).advance 2)

/-- `ADD A,IYL` (R501). -/
def execAddAIYL (s : State) : Result := .next ((s.addA (s.half .iy .low)).advance 2)

/-- `ADC A,r` (R502). -/
def execAdcAR (r : Reg8) (s : State) : Result := .next ((s.adcA (s.get r)).advance 1)

/-- `ADC A,n` (R502). -/
def execAdcAN (n : Byte) (s : State) : Result := .next ((s.adcA n).advance 2)

/-- `ADC A,(HL)` (R502). -/
def execAdcAAtHL (s : State) : Result := .next ((s.adcA (s.read s.hl)).advance 1)

/-- `ADC A,(IX+d)` (R502). -/
def execAdcAAtIXd (d : Byte) (s : State) : Result := .next ((s.adcA (s.read (s.indexed .ix d))).advance 3)

/-- `ADC A,(IY+d)` (R502). -/
def execAdcAAtIYd (d : Byte) (s : State) : Result := .next ((s.adcA (s.read (s.indexed .iy d))).advance 3)

/-- `ADC A,IXH` (R502). -/
def execAdcAIXH (s : State) : Result := .next ((s.adcA (s.half .ix .high)).advance 2)

/-- `ADC A,IXL` (R502). -/
def execAdcAIXL (s : State) : Result := .next ((s.adcA (s.half .ix .low)).advance 2)

/-- `ADC A,IYH` (R502). -/
def execAdcAIYH (s : State) : Result := .next ((s.adcA (s.half .iy .high)).advance 2)

/-- `ADC A,IYL` (R502). -/
def execAdcAIYL (s : State) : Result := .next ((s.adcA (s.half .iy .low)).advance 2)

/-- `SUB r` (R503). -/
def execSubR (r : Reg8) (s : State) : Result := .next ((s.subA (s.get r)).advance 1)

/-- `SUB n` (R503). -/
def execSubN (n : Byte) (s : State) : Result := .next ((s.subA n).advance 2)

/-- `SUB (HL)` (R503). -/
def execSubAtHL (s : State) : Result := .next ((s.subA (s.read s.hl)).advance 1)

/-- `SUB (IX+d)` (R503). -/
def execSubAtIXd (d : Byte) (s : State) : Result := .next ((s.subA (s.read (s.indexed .ix d))).advance 3)

/-- `SUB (IY+d)` (R503). -/
def execSubAtIYd (d : Byte) (s : State) : Result := .next ((s.subA (s.read (s.indexed .iy d))).advance 3)

/-- `SUB IXH` (R503). -/
def execSubIXH (s : State) : Result := .next ((s.subA (s.half .ix .high)).advance 2)

/-- `SUB IXL` (R503). -/
def execSubIXL (s : State) : Result := .next ((s.subA (s.half .ix .low)).advance 2)

/-- `SUB IYH` (R503). -/
def execSubIYH (s : State) : Result := .next ((s.subA (s.half .iy .high)).advance 2)

/-- `SUB IYL` (R503). -/
def execSubIYL (s : State) : Result := .next ((s.subA (s.half .iy .low)).advance 2)

/-- `SBC A,r` (R504). -/
def execSbcAR (r : Reg8) (s : State) : Result := .next ((s.sbcA (s.get r)).advance 1)

/-- `SBC A,n` (R504). -/
def execSbcAN (n : Byte) (s : State) : Result := .next ((s.sbcA n).advance 2)

/-- `SBC A,(HL)` (R504). -/
def execSbcAAtHL (s : State) : Result := .next ((s.sbcA (s.read s.hl)).advance 1)

/-- `SBC A,(IX+d)` (R504). -/
def execSbcAAtIXd (d : Byte) (s : State) : Result := .next ((s.sbcA (s.read (s.indexed .ix d))).advance 3)

/-- `SBC A,(IY+d)` (R504). -/
def execSbcAAtIYd (d : Byte) (s : State) : Result := .next ((s.sbcA (s.read (s.indexed .iy d))).advance 3)

/-- `SBC A,IXH` (R504). -/
def execSbcAIXH (s : State) : Result := .next ((s.sbcA (s.half .ix .high)).advance 2)

/-- `SBC A,IXL` (R504). -/
def execSbcAIXL (s : State) : Result := .next ((s.sbcA (s.half .ix .low)).advance 2)

/-- `SBC A,IYH` (R504). -/
def execSbcAIYH (s : State) : Result := .next ((s.sbcA (s.half .iy .high)).advance 2)

/-- `SBC A,IYL` (R504). -/
def execSbcAIYL (s : State) : Result := .next ((s.sbcA (s.half .iy .low)).advance 2)

/-- `AND r` (R505). -/
def execAndR (r : Reg8) (s : State) : Result := .next ((s.andA (s.get r)).advance 1)

/-- `AND n` (R505). -/
def execAndN (n : Byte) (s : State) : Result := .next ((s.andA n).advance 2)

/-- `AND (HL)` (R505). -/
def execAndAtHL (s : State) : Result := .next ((s.andA (s.read s.hl)).advance 1)

/-- `AND (IX+d)` (R505). -/
def execAndAtIXd (d : Byte) (s : State) : Result := .next ((s.andA (s.read (s.indexed .ix d))).advance 3)

/-- `AND (IY+d)` (R505). -/
def execAndAtIYd (d : Byte) (s : State) : Result := .next ((s.andA (s.read (s.indexed .iy d))).advance 3)

/-- `AND IXH` (R505). -/
def execAndIXH (s : State) : Result := .next ((s.andA (s.half .ix .high)).advance 2)

/-- `AND IXL` (R505). -/
def execAndIXL (s : State) : Result := .next ((s.andA (s.half .ix .low)).advance 2)

/-- `AND IYH` (R505). -/
def execAndIYH (s : State) : Result := .next ((s.andA (s.half .iy .high)).advance 2)

/-- `AND IYL` (R505). -/
def execAndIYL (s : State) : Result := .next ((s.andA (s.half .iy .low)).advance 2)

/-- `XOR r` (R506). -/
def execXorR (r : Reg8) (s : State) : Result := .next ((s.xorA (s.get r)).advance 1)

/-- `XOR n` (R506). -/
def execXorN (n : Byte) (s : State) : Result := .next ((s.xorA n).advance 2)

/-- `XOR (HL)` (R506). -/
def execXorAtHL (s : State) : Result := .next ((s.xorA (s.read s.hl)).advance 1)

/-- `XOR (IX+d)` (R506). -/
def execXorAtIXd (d : Byte) (s : State) : Result := .next ((s.xorA (s.read (s.indexed .ix d))).advance 3)

/-- `XOR (IY+d)` (R506). -/
def execXorAtIYd (d : Byte) (s : State) : Result := .next ((s.xorA (s.read (s.indexed .iy d))).advance 3)

/-- `XOR IXH` (R506). -/
def execXorIXH (s : State) : Result := .next ((s.xorA (s.half .ix .high)).advance 2)

/-- `XOR IXL` (R506). -/
def execXorIXL (s : State) : Result := .next ((s.xorA (s.half .ix .low)).advance 2)

/-- `XOR IYH` (R506). -/
def execXorIYH (s : State) : Result := .next ((s.xorA (s.half .iy .high)).advance 2)

/-- `XOR IYL` (R506). -/
def execXorIYL (s : State) : Result := .next ((s.xorA (s.half .iy .low)).advance 2)

/-- `OR r` (R507). -/
def execOrR (r : Reg8) (s : State) : Result := .next ((s.orA (s.get r)).advance 1)

/-- `OR n` (R507). -/
def execOrN (n : Byte) (s : State) : Result := .next ((s.orA n).advance 2)

/-- `OR (HL)` (R507). -/
def execOrAtHL (s : State) : Result := .next ((s.orA (s.read s.hl)).advance 1)

/-- `OR (IX+d)` (R507). -/
def execOrAtIXd (d : Byte) (s : State) : Result := .next ((s.orA (s.read (s.indexed .ix d))).advance 3)

/-- `OR (IY+d)` (R507). -/
def execOrAtIYd (d : Byte) (s : State) : Result := .next ((s.orA (s.read (s.indexed .iy d))).advance 3)

/-- `OR IXH` (R507). -/
def execOrIXH (s : State) : Result := .next ((s.orA (s.half .ix .high)).advance 2)

/-- `OR IXL` (R507). -/
def execOrIXL (s : State) : Result := .next ((s.orA (s.half .ix .low)).advance 2)

/-- `OR IYH` (R507). -/
def execOrIYH (s : State) : Result := .next ((s.orA (s.half .iy .high)).advance 2)

/-- `OR IYL` (R507). -/
def execOrIYL (s : State) : Result := .next ((s.orA (s.half .iy .low)).advance 2)

/-- `CP r` (R508). -/
def execCpR (r : Reg8) (s : State) : Result := .next ((s.cpA (s.get r)).advance 1)

/-- `CP n` (R508). -/
def execCpN (n : Byte) (s : State) : Result := .next ((s.cpA n).advance 2)

/-- `CP (HL)` (R508). -/
def execCpAtHL (s : State) : Result := .next ((s.cpA (s.read s.hl)).advance 1)

/-- `CP (IX+d)` (R508). -/
def execCpAtIXd (d : Byte) (s : State) : Result := .next ((s.cpA (s.read (s.indexed .ix d))).advance 3)

/-- `CP (IY+d)` (R508). -/
def execCpAtIYd (d : Byte) (s : State) : Result := .next ((s.cpA (s.read (s.indexed .iy d))).advance 3)

/-- `CP IXH` (R508). -/
def execCpIXH (s : State) : Result := .next ((s.cpA (s.half .ix .high)).advance 2)

/-- `CP IXL` (R508). -/
def execCpIXL (s : State) : Result := .next ((s.cpA (s.half .ix .low)).advance 2)

/-- `CP IYH` (R508). -/
def execCpIYH (s : State) : Result := .next ((s.cpA (s.half .iy .high)).advance 2)

/-- `CP IYL` (R508). -/
def execCpIYL (s : State) : Result := .next ((s.cpA (s.half .iy .low)).advance 2)

/-! ## Increment and decrement -/

/-- `INC r` (R509). -/
def execIncR (t : Reg8) (s : State) : Result := .next ((s.modifyReg inc8 t).advance 1)

/-- `INC (HL)` (R509). -/
def execIncAtHL (s : State) : Result := .next ((s.modifyAt inc8 s.hl).advance 1)

/-- `INC (IX+d)` (R509). -/
def execIncAtIXd (d : Byte) (s : State) : Result := .next ((s.modifyAt inc8 (s.indexed .ix d)).advance 3)

/-- `INC (IY+d)` (R509). -/
def execIncAtIYd (d : Byte) (s : State) : Result := .next ((s.modifyAt inc8 (s.indexed .iy d)).advance 3)

/-- `INC IXH` (R509). -/
def execIncIXH (s : State) : Result := .next ((s.modifyHalf inc8 .ix .high).advance 2)

/-- `INC IXL` (R509). -/
def execIncIXL (s : State) : Result := .next ((s.modifyHalf inc8 .ix .low).advance 2)

/-- `INC IYH` (R509). -/
def execIncIYH (s : State) : Result := .next ((s.modifyHalf inc8 .iy .high).advance 2)

/-- `INC IYL` (R509). -/
def execIncIYL (s : State) : Result := .next ((s.modifyHalf inc8 .iy .low).advance 2)

/-- `DEC r` (R510). -/
def execDecR (t : Reg8) (s : State) : Result := .next ((s.modifyReg dec8 t).advance 1)

/-- `DEC (HL)` (R510). -/
def execDecAtHL (s : State) : Result := .next ((s.modifyAt dec8 s.hl).advance 1)

/-- `DEC (IX+d)` (R510). -/
def execDecAtIXd (d : Byte) (s : State) : Result := .next ((s.modifyAt dec8 (s.indexed .ix d)).advance 3)

/-- `DEC (IY+d)` (R510). -/
def execDecAtIYd (d : Byte) (s : State) : Result := .next ((s.modifyAt dec8 (s.indexed .iy d)).advance 3)

/-- `DEC IXH` (R510). -/
def execDecIXH (s : State) : Result := .next ((s.modifyHalf dec8 .ix .high).advance 2)

/-- `DEC IXL` (R510). -/
def execDecIXL (s : State) : Result := .next ((s.modifyHalf dec8 .ix .low).advance 2)

/-- `DEC IYH` (R510). -/
def execDecIYH (s : State) : Result := .next ((s.modifyHalf dec8 .iy .high).advance 2)

/-- `DEC IYL` (R510). -/
def execDecIYL (s : State) : Result := .next ((s.modifyHalf dec8 .iy .low).advance 2)

/-! ## Accumulator and flag operations -/

/-- The result and the flags of DAA (R511, D20), from `A` and the flags before. -/
def daa (a : Byte) (f : Flags) : Byte × Named :=
  let high := f.cf || decide (a.toNat > 0x99)
  let corr : Byte :=
    (if f.hf || decide (a.toNat % 16 > 9) then 0x06 else 0x00) ||| (if high then 0x60 else 0x00)
  let res := if f.nf then a - corr else a + corr
  (res,
    { sf := res.msb, zf := res == 0, hf := (a ^^^ res).getLsbD 4, pv := parity res, nf := f.nf, cf := high })

/-- `DAA` (R511). -/
def execDaa (s : State) : Result := .next ((s.accumulate (daa s.a s.f)).advance 1)

/-- `CPL` (R512). -/
def execCpl (s : State) : Result :=
  .next (((s.set .a (s.a ^^^ 0xFF)).setFlags { s.f.named with hf := true, nf := true }).advance 1)

/-- `NEG` (R513; `PV` is a draw, D16). -/
def execNeg (s : State) : Result :=
  let r := sub8 0 s.a false
  .next (((s.drew 1).accumulate (r.1, { r.2 with pv := s.drawnBit })).advance 2)

/-- `CCF` (R514; `HF` is a draw, D15). -/
def execCcf (s : State) : Result :=
  .next (((s.drew 1).setFlags { s.f.named with hf := s.drawnBit, nf := false, cf := !s.f.cf }).advance 1)

/-- `SCF` (R515). -/
def execScf (s : State) : Result :=
  .next ((s.setFlags { s.f.named with hf := false, nf := false, cf := true }).advance 1)

/-- `TEST n` (R516). -/
def execTestN (n : Byte) (s : State) : Result := .next ((s.setFlags (logic (s.a &&& n) true)).advance 3)

end Sys2Proof.Machine
end

