-- ==== Sys2Proof/Machine/Barrel.lean ====
section
/-! DEFINITION. Barrel shifts and accumulator bit patterns of the ZX Next (43_rotate_shift_bit.md R620 to R627). No flag is written. -/

namespace Sys2Proof.Machine

/-- The shift amount of the four barrel shifts: `B & $1F`. -/
def State.amount (s : State) : Nat := (s.b &&& 0x1F).toNat

/-- `BSLA DE,B` (R620). -/
def execBslaDEB (s : State) : Result := .next ((s.setDE (s.de <<< s.amount)).advance 2)

/-- `BSRA DE,B` (R621). -/
def execBsraDEB (s : State) : Result := .next ((s.setDE (s.de.sshiftRight s.amount)).advance 2)

/-- `BSRL DE,B` (R622). -/
def execBsrlDEB (s : State) : Result := .next ((s.setDE (s.de >>> s.amount)).advance 2)

/-- `BSRF DE,B` (R623). -/
def execBsrfDEB (s : State) : Result := .next ((s.setDE (~~~(~~~s.de >>> s.amount))).advance 2)

/-- `BRLC DE,B` (R624). -/
def execBrlcDEB (s : State) : Result :=
  let n := (s.b &&& 0x0F).toNat
  .next ((s.setDE (s.de <<< n ||| s.de >>> (16 - n))).advance 2)

/-- The bits of a byte in reverse order (R625). -/
def mirror (v : Byte) : Byte :=
  BitVec.ofBool (v.getLsbD 0) ++ BitVec.ofBool (v.getLsbD 1) ++ BitVec.ofBool (v.getLsbD 2)
    ++ BitVec.ofBool (v.getLsbD 3) ++ BitVec.ofBool (v.getLsbD 4) ++ BitVec.ofBool (v.getLsbD 5)
    ++ BitVec.ofBool (v.getLsbD 6) ++ BitVec.ofBool (v.getLsbD 7)

/-- `MIRROR A` (R625). -/
def execMirrorA (s : State) : Result := .next ((s.set .a (mirror s.a)).advance 2)

/-- `SWAPNIB` (R626). -/
def execSwapnib (s : State) : Result := .next ((s.set .a (s.a <<< 4 ||| s.a >>> 4)).advance 2)

/-- `SETAE` (R627). -/
def execSetae (s : State) : Result := .next ((s.set .a ((0x80 : Byte) >>> (s.e &&& 7).toNat)).advance 2)

end Sys2Proof.Machine
end

