-- ==== Sys2Proof/Machine/Bit.lean ====
section
/-! DEFINITION. BIT, SET and RES (43_rotate_shift_bit.md R616 to R619). -/

namespace Sys2Proof.Machine

/-- The byte with bit `b` alone. -/
def bitMask (b : BitVec 3) : Byte := (1 : Byte) <<< b.toNat

/-- SET (R617). -/
def setBit (b : BitVec 3) (v : Byte) : Byte := v ||| bitMask b

/-- RES (R618). -/
def resBit (b : BitVec 3) (v : Byte) : Byte := v &&& ~~~(bitMask b)

/-- The flags of `BIT b` on `v` (R616): `SF` and `PV` are draws (D17). -/
def State.testBit (s : State) (b : BitVec 3) (v : Byte) : State :=
  (s.drew 2).setFlags
    { s.f.named with
      sf := Config.freeBit s.draws, zf := !v.getLsbD b.toNat, hf := true
      pv := Config.freeBit (s.draws + 1), nf := false }

/-- `BIT b,r` (R616). -/
def execBitBR (b : BitVec 3) (r : Reg8) (s : State) : Result := .next ((s.testBit b (s.get r)).advance 2)

/-- `BIT b,(HL)` (R616). -/
def execBitBAtHL (b : BitVec 3) (s : State) : Result := .next ((s.testBit b (s.read s.hl)).advance 2)

/-- `BIT b,(IX+d)` (R616). -/
def execBitBAtIXd (b : BitVec 3) (d : Byte) (s : State) : Result :=
  .next ((s.testBit b (s.read (s.indexed .ix d))).advance 4)

/-- `BIT b,(IY+d)` (R616). -/
def execBitBAtIYd (b : BitVec 3) (d : Byte) (s : State) : Result :=
  .next ((s.testBit b (s.read (s.indexed .iy d))).advance 4)

/-- `SET b,r` (R617). -/
def execSetBR (b : BitVec 3) (r : Reg8) (s : State) : Result := .next ((s.mapReg (setBit b) r).advance 2)

/-- `SET b,(HL)` (R617). -/
def execSetBAtHL (b : BitVec 3) (s : State) : Result := .next ((s.mapAt (setBit b) s.hl).advance 2)

/-- `SET b,(IX+d)` (R617). -/
def execSetBAtIXd (b : BitVec 3) (d : Byte) (s : State) : Result :=
  .next ((s.mapAt (setBit b) (s.indexed .ix d)).advance 4)

/-- `SET b,(IX+d),r` (R619). -/
def execSetBAtIXdR (b : BitVec 3) (d : Byte) (r : Reg8) (s : State) : Result :=
  .next ((s.mapAtCopy (setBit b) (s.indexed .ix d) r).advance 4)

/-- `SET b,(IY+d)` (R617). -/
def execSetBAtIYd (b : BitVec 3) (d : Byte) (s : State) : Result :=
  .next ((s.mapAt (setBit b) (s.indexed .iy d)).advance 4)

/-- `SET b,(IY+d),r` (R619). -/
def execSetBAtIYdR (b : BitVec 3) (d : Byte) (r : Reg8) (s : State) : Result :=
  .next ((s.mapAtCopy (setBit b) (s.indexed .iy d) r).advance 4)

/-- `RES b,r` (R618). -/
def execResBR (b : BitVec 3) (r : Reg8) (s : State) : Result := .next ((s.mapReg (resBit b) r).advance 2)

/-- `RES b,(HL)` (R618). -/
def execResBAtHL (b : BitVec 3) (s : State) : Result := .next ((s.mapAt (resBit b) s.hl).advance 2)

/-- `RES b,(IX+d)` (R618). -/
def execResBAtIXd (b : BitVec 3) (d : Byte) (s : State) : Result :=
  .next ((s.mapAt (resBit b) (s.indexed .ix d)).advance 4)

/-- `RES b,(IX+d),r` (R619). -/
def execResBAtIXdR (b : BitVec 3) (d : Byte) (r : Reg8) (s : State) : Result :=
  .next ((s.mapAtCopy (resBit b) (s.indexed .ix d) r).advance 4)

/-- `RES b,(IY+d)` (R618). -/
def execResBAtIYd (b : BitVec 3) (d : Byte) (s : State) : Result :=
  .next ((s.mapAt (resBit b) (s.indexed .iy d)).advance 4)

/-- `RES b,(IY+d),r` (R619). -/
def execResBAtIYdR (b : BitVec 3) (d : Byte) (r : Reg8) (s : State) : Result :=
  .next ((s.mapAtCopy (resBit b) (s.indexed .iy d) r).advance 4)

end Sys2Proof.Machine
end

