-- ==== Sys2Proof/Machine/Block.lean ====
section
/-! DEFINITION. Block copies and searches (45_block.md). One execution of a repeating instruction is one body. -/

namespace Sys2Proof.Machine

/-! ## Repetition -/

/-- After one body of a repeating instruction, whose `PC` still is `pc0`: past it if it stops, else to it again (R758). -/
def State.repeatUnless (s : State) (stop : Bool) : State := if stop then s.advance 2 else s

/-! ## Copies (R750 to R753) -/

/-- One body of LDI (`step` = 1) or LDD (`step` = -1). -/
def State.copyByte (s : State) (step : Word) : State :=
  let bc := s.bc - 1
  ((((s.write s.de (s.read s.hl)).setHL (s.hl + step)).setDE (s.de + step)).setBC bc).setFlags
    { s.f.named with hf := false, pv := bc != 0, nf := false }

/-- `LDI` (R750). -/
def execLdi (s : State) : Result := .next ((s.copyByte 1).advance 2)

/-- `LDIR` (R751). -/
def execLdir (s : State) : Result :=
  let t := s.copyByte 1
  .next (t.repeatUnless (t.bc == 0))

/-- `LDD` (R752). -/
def execLdd (s : State) : Result := .next ((s.copyByte (-1)).advance 2)

/-- `LDDR` (R753). -/
def execLddr (s : State) : Result :=
  let t := s.copyByte (-1)
  .next (t.repeatUnless (t.bc == 0))

/-! ## Searches (R754 to R757) -/

/-- One body of CPI (`step` = 1) or CPD (`step` = -1). -/
def State.compareByte (s : State) (step : Word) : State :=
  let fl := (sub8 s.a (s.read s.hl) false).2
  let bc := s.bc - 1
  ((s.setHL (s.hl + step)).setBC bc).setFlags
    { sf := fl.sf, zf := fl.zf, hf := fl.hf, pv := bc != 0, nf := true, cf := s.f.cf }

/-- `CPI` (R754). -/
def execCpi (s : State) : Result := .next ((s.compareByte 1).advance 2)

/-- `CPIR` (R755). -/
def execCpir (s : State) : Result :=
  let t := s.compareByte 1
  .next (t.repeatUnless (t.bc == 0 || t.f.zf))

/-- `CPD` (R756). -/
def execCpd (s : State) : Result := .next ((s.compareByte (-1)).advance 2)

/-- `CPDR` (R757). -/
def execCpdr (s : State) : Result :=
  let t := s.compareByte (-1)
  .next (t.repeatUnless (t.bc == 0 || t.f.zf))

/-! ## ZX Next copies (R759 to R764) -/

/-- Store the byte `v` at `DE` if it differs from `A`, the transparent one (R759). -/
def State.storeUnlessA (s : State) (v : Byte) : State := if v != s.a then s.write s.de v else s

/-- One body of LDIX (`step` = 1) or LDDX (`step` = -1): `HL` moves by `step`, `DE` upwards in both. -/
def State.maskedCopy (s : State) (step : Word) : State :=
  (((s.storeUnlessA (s.read s.hl)).setHL (s.hl + step)).setDE (s.de + 1)).setBC (s.bc - 1)

/-- The source address of LDPIRX (R763). -/
def State.patternAddress (s : State) : Word := s.hl &&& 0xFFF8 ||| s.de &&& 0x0007

/-- One body of LDPIRX. -/
def State.patternCopy (s : State) : State :=
  ((s.storeUnlessA (s.read s.patternAddress)).setDE (s.de + 1)).setBC (s.bc - 1)

/-- `LDIX` (R759). -/
def execLdix (s : State) : Result := .next ((s.maskedCopy 1).advance 2)

/-- `LDIRX` (R760). -/
def execLdirx (s : State) : Result :=
  let t := s.maskedCopy 1
  .next (t.repeatUnless (t.bc == 0))

/-- `LDDX` (R761). -/
def execLddx (s : State) : Result := .next ((s.maskedCopy (-1)).advance 2)

/-- `LDDRX` (R762). -/
def execLddrx (s : State) : Result :=
  let t := s.maskedCopy (-1)
  .next (t.repeatUnless (t.bc == 0))

/-- `LDPIRX` (R763). -/
def execLdpirx (s : State) : Result :=
  let t := s.patternCopy
  .next (t.repeatUnless (t.bc == 0))

/-- `LDWS` (R764). -/
def execLdws (s : State) : Result :=
  let r := inc8 s.d s.f.cf
  .next (((((s.write s.de (s.read s.hl)).set .l (s.l + 1)).set .d r.1).setFlags r.2).advance 2)

end Sys2Proof.Machine
end

