-- ==== Sys2Proof/Machine/Control.lean ====
section
/-! DEFINITION. Jumps, calls, returns and restarts (44_control_transfer.md). No form writes a flag but `JP (C)`. -/

namespace Sys2Proof.Machine

/-! ## Jumps -/

/-- `JP nn` (R701). -/
def execJpNN (nn : Word) (s : State) : Result := .next (s.goto nn)

/-- `JP c,nn` (R702). -/
def execJpCondNN (cc : Cond) (nn : Word) (s : State) : Result := .next (if s.cond cc then s.goto nn else s.advance 3)

/-- `JP (HL)` (R703). -/
def execJpAtHL (s : State) : Result := .next (s.goto s.hl)

/-- `JP (IX)` (R704). -/
def execJpAtIX (s : State) : Result := .next (s.goto s.ix)

/-- `JP (IY)` (R704). -/
def execJpAtIY (s : State) : Result := .next (s.goto s.iy)

/-- `JP (C)` (R705; every bit of `F` is a draw, D19). -/
def execJpAtC (s : State) : Result :=
  let v := zext16 (s.portAnswer s.bc) <<< 6
  .next ((s.portRead s.bc).freeFlags.goto (s.npc 2 &&& 0xC000 ||| v))

/-- The target of a relative jump of two bytes (R706). -/
def State.relative (s : State) (e : Byte) : Word := s.npc 2 + sext16 e

/-- `JR e` (R706). -/
def execJrE (e : Byte) (s : State) : Result := .next (s.goto (s.relative e))

/-- `JR c,e` (R707). -/
def execJrCondE (cc : Cond) (e : Byte) (s : State) : Result :=
  .next (if s.cond cc then s.goto (s.relative e) else s.advance 2)

/-- `DJNZ e` (R708). -/
def execDjnzE (e : Byte) (s : State) : Result :=
  let t := s.set .b (s.b - 1)
  .next (if t.b != 0 then t.goto (s.relative e) else t.advance 2)

/-! ## Calls, returns, restarts -/

/-- `CALL nn` (R709). -/
def execCallNN (nn : Word) (s : State) : Result := .next (s.enter (s.npc 3) nn)

/-- `CALL c,nn` (R710). -/
def execCallCondNN (cc : Cond) (nn : Word) (s : State) : Result :=
  .next (if s.cond cc then s.enter (s.npc 3) nn else s.advance 3)

/-- `RET` (R711). -/
def execRet (s : State) : Result := .next s.leave

/-- `RET c` (R712). -/
def execRetCond (cc : Cond) (s : State) : Result := .next (if s.cond cc then s.leave else s.advance 1)

/-- `RST n` (R713). -/
def execRstN (v : BitVec 3) (s : State) : Result := .next (s.enter (s.npc 1) (v.zeroExtend 16 <<< 3))

end Sys2Proof.Machine
end

