-- ==== Sys2Proof/Machine/Exchange.lean ====
section
/-! DEFINITION. PUSH, POP, EX and EXX (40_load_exchange.md R428 to R437). -/

namespace Sys2Proof.Machine

/-! ## Stack -/

/-- `PUSH rr` (R428). -/
def execPushRR (q : PairAF) (s : State) : Result := .next ((s.push (s.pairAF q)).advance 1)

/-- `PUSH IX` (R429). -/
def execPushIX (s : State) : Result := .next ((s.push s.ix).advance 2)

/-- `PUSH IY` (R429). -/
def execPushIY (s : State) : Result := .next ((s.push s.iy).advance 2)

/-- `PUSH nn` (R430; the decoder reads the high byte of `nn` first). -/
def execPushNN (nn : Word) (s : State) : Result := .next ((s.push nn).advance 4)

/-- `POP rr` (R431). -/
def execPopRR (q : PairAF) (s : State) : Result := .next ((s.popped.setPairAF q s.top).advance 1)

/-- `POP IX` (R432). -/
def execPopIX (s : State) : Result := .next ((s.popped.setIndex .ix s.top).advance 2)

/-- `POP IY` (R432). -/
def execPopIY (s : State) : Result := .next ((s.popped.setIndex .iy s.top).advance 2)

/-! ## Exchanges -/

/-- `EX AF,AF'` (R433). -/
def execExAFAFAlt (s : State) : Result := .next ({ s with a := s.a', f := s.f', a' := s.a, f' := s.f }.advance 1)

/-- `EX DE,HL` (R434). -/
def execExDEHL (s : State) : Result := .next (((s.setDE s.hl).setHL s.de).advance 1)

/-- Write `v` where `SP` points, the low byte first: the store of `EX (SP),rr` (R435), after both reads. -/
def State.replaceTop (s : State) (v : Word) : State := s.write16 s.sp v

/-- `EX (SP),HL` (R435). -/
def execExAtSPHL (s : State) : Result := .next (((s.replaceTop s.hl).setHL s.top).advance 1)

/-- `EX (SP),IX` (R436). -/
def execExAtSPIX (s : State) : Result := .next (((s.replaceTop s.ix).setIndex .ix s.top).advance 2)

/-- `EX (SP),IY` (R436). -/
def execExAtSPIY (s : State) : Result := .next (((s.replaceTop s.iy).setIndex .iy s.top).advance 2)

/-- `EXX` (R437). -/
def execExx (s : State) : Result :=
  .next (
    { s with b := s.b', c := s.c', d := s.d', e := s.e', h := s.h', l := s.l'
             b' := s.b, c' := s.c, d' := s.d, e' := s.e, h' := s.h, l' := s.l }.advance 1)

end Sys2Proof.Machine
end

