-- ==== Sys2Proof/Machine/InOut.lean ====
section
/-! DEFINITION. Input and output, and Next-register writes (46_io.md). -/

namespace Sys2Proof.Machine

/-! ## IN and OUT -/

/-- The flags of a byte read from a port: `CF` as it stands (R801). -/
def State.portFlags (s : State) (v : Byte) : State := s.setFlags (shiftFlags v s.f.cf)

/-- `IN A,(n)` (R800). -/
def execInAAtN (n : Byte) (s : State) : Result :=
  .next (((s.portRead (s.portN n)).set .a (s.portAnswer (s.portN n))).advance 2)

/-- `IN r,(C)` (R801). -/
def execInRAtC (t : Reg8) (s : State) : Result :=
  let v := s.portAnswer s.bc
  .next ((((s.portRead s.bc).set t v).portFlags v).advance 2)

/-- `IN (C)` (R802). -/
def execInAtC (s : State) : Result := .next (((s.portRead s.bc).portFlags (s.portAnswer s.bc)).advance 2)

/-- `OUT (n),A` (R803). -/
def execOutAtNA (n : Byte) (s : State) : Result := .next ((s.portWrite (s.portN n) s.a).advance 2)

/-- `OUT (C),r` (R804). -/
def execOutAtCR (t : Reg8) (s : State) : Result := .next ((s.portWrite s.bc (s.get t)).advance 2)

/-- `OUT (C),0` (R805). -/
def execOutAtCZero (s : State) : Result := .next ((s.portWrite s.bc 0x00).advance 2)

/-! ## Block forms (R806 to R814) -/

/-- The end of a block input or output: `HL` moves, `B` counts down, `ZF` says whether it is 0 now; the other flags are
draws (R806, D18). -/
def State.countB (s : State) (step : Word) : State :=
  let b := s.b - 1
  (((s.setHL (s.hl + step)).set .b b).drew 5).setFlags
    { sf := Config.freeBit s.draws, zf := b == 0, hf := Config.freeBit (s.draws + 1)
      pv := Config.freeBit (s.draws + 2), nf := Config.freeBit (s.draws + 3), cf := Config.freeBit (s.draws + 4) }

/-- One body of INI (`step` = 1) or IND (`step` = -1): the port address has `B` before the decrement. -/
def State.inputByte (s : State) (step : Word) : State :=
  ((s.portRead s.bc).write s.hl (s.portAnswer s.bc)).countB step

/-- The port address of OUTI, OUTD and their repeating forms: `out_block_port_b` says which `B` (R810, D10, log 10). -/
def State.outputPort (s : State) : Word :=
  match s.cfg.outPortB with
  | .before => s.bc
  | .after => join (s.b - 1) s.c

/-- One body of OUTI (`step` = 1) or OUTD (`step` = -1). -/
def State.outputByte (s : State) (step : Word) : State := (s.portWrite s.outputPort (s.read s.hl)).countB step

/-- `INI` (R806). -/
def execIni (s : State) : Result := .next ((s.inputByte 1).advance 2)

/-- `INIR` (R807). -/
def execInir (s : State) : Result :=
  let t := s.inputByte 1
  .next (t.repeatUnless (t.b == 0))

/-- `IND` (R808). -/
def execInd (s : State) : Result := .next ((s.inputByte (-1)).advance 2)

/-- `INDR` (R809). -/
def execIndr (s : State) : Result :=
  let t := s.inputByte (-1)
  .next (t.repeatUnless (t.b == 0))

/-- `OUTI` (R810). -/
def execOuti (s : State) : Result := .next ((s.outputByte 1).advance 2)

/-- `OTIR` (R811). -/
def execOtir (s : State) : Result :=
  let t := s.outputByte 1
  .next (t.repeatUnless (t.b == 0))

/-- `OUTD` (R812). -/
def execOutd (s : State) : Result := .next ((s.outputByte (-1)).advance 2)

/-- `OTDR` (R813). -/
def execOtdr (s : State) : Result :=
  let t := s.outputByte (-1)
  .next (t.repeatUnless (t.b == 0))

/-- `OUTINB` (R814; every bit of `F` is a draw, D19). -/
def execOutinb (s : State) : Result :=
  .next ((((s.portWrite s.bc (s.read s.hl)).setHL (s.hl + 1)).freeFlags).advance 2)

/-! ## Next registers -/

/-- `NEXTREG n,n'` (R815). -/
def execNextregNN (g : Byte) (n : Byte) (s : State) : Result := .next ((s.nextRegWrite g n).advance 4)

/-- `NEXTREG n,A` (R816). -/
def execNextregNA (g : Byte) (s : State) : Result := .next ((s.nextRegWrite g s.a).advance 3)

end Sys2Proof.Machine
end

