-- ==== Sys2Proof/Machine/Load.lean ====
section
/-! DEFINITION. LD (40_load_exchange.md R401 to R427). No form writes a flag but `LD A,I` and `LD A,R`. -/

namespace Sys2Proof.Machine

/-! ## 8-bit loads -/

/-- `LD r,r'` (R401). -/
def execLdRR (t : Reg8) (r : Reg8) (s : State) : Result := .next ((s.set t (s.get r)).advance 1)

/-- `LD r,n` (R402). -/
def execLdRN (t : Reg8) (n : Byte) (s : State) : Result := .next ((s.set t n).advance 2)

/-- `LD r,(HL)` (R403). -/
def execLdRAtHL (t : Reg8) (s : State) : Result := .next ((s.set t (s.read s.hl)).advance 1)

/-- `LD r,(IX+d)` (R404). -/
def execLdRAtIXd (t : Reg8) (d : Byte) (s : State) : Result := .next ((s.set t (s.read (s.indexed .ix d))).advance 3)

/-- `LD r,(IY+d)` (R404). -/
def execLdRAtIYd (t : Reg8) (d : Byte) (s : State) : Result := .next ((s.set t (s.read (s.indexed .iy d))).advance 3)

/-- `LD (HL),r` (R405). -/
def execLdAtHLR (r : Reg8) (s : State) : Result := .next ((s.write s.hl (s.get r)).advance 1)

/-- `LD (IX+d),r` (R406). -/
def execLdAtIXdR (d : Byte) (r : Reg8) (s : State) : Result := .next ((s.write (s.indexed .ix d) (s.get r)).advance 3)

/-- `LD (IY+d),r` (R406). -/
def execLdAtIYdR (d : Byte) (r : Reg8) (s : State) : Result := .next ((s.write (s.indexed .iy d) (s.get r)).advance 3)

/-- `LD (HL),n` (R407). -/
def execLdAtHLN (n : Byte) (s : State) : Result := .next ((s.write s.hl n).advance 2)

/-- `LD (IX+d),n` (R408). -/
def execLdAtIXdN (d : Byte) (n : Byte) (s : State) : Result := .next ((s.write (s.indexed .ix d) n).advance 4)

/-- `LD (IY+d),n` (R408). -/
def execLdAtIYdN (d : Byte) (n : Byte) (s : State) : Result := .next ((s.write (s.indexed .iy d) n).advance 4)

/-- `LD A,(BC)` (R409). -/
def execLdAAtBC (s : State) : Result := .next ((s.set .a (s.read s.bc)).advance 1)

/-- `LD A,(DE)` (R409). -/
def execLdAAtDE (s : State) : Result := .next ((s.set .a (s.read s.de)).advance 1)

/-- `LD A,(nn)` (R410). -/
def execLdAAtNN (nn : Word) (s : State) : Result := .next ((s.set .a (s.read nn)).advance 3)

/-- `LD (BC),A` (R411). -/
def execLdAtBCA (s : State) : Result := .next ((s.write s.bc s.a).advance 1)

/-- `LD (DE),A` (R411). -/
def execLdAtDEA (s : State) : Result := .next ((s.write s.de s.a).advance 1)

/-- `LD (nn),A` (R412). -/
def execLdAtNNA (nn : Word) (s : State) : Result := .next ((s.write nn s.a).advance 3)

/-- `A <- v` with the flags of `LD A,I` and `LD A,R` (R413). -/
def State.loadA (s : State) (v : Byte) : State :=
  (s.set .a v).setFlags { s.f.named with sf := v.msb, zf := v == 0, hf := false, pv := s.iff2, nf := false }

/-- `LD A,I` (R413). -/
def execLdAI (s : State) : Result := .next ((s.loadA s.i).advance 2)

/-- `LD A,R` (R414; `R` does not count: the value read is a draw, D11). -/
def execLdARfsh (s : State) : Result := .next (((s.drew 1).loadA s.drawnByte).advance 2)

/-- `LD I,A` (R415). -/
def execLdIA (s : State) : Result := .next ({ s with i := s.a }.advance 2)

/-- `LD R,A` (R416). -/
def execLdRfshA (s : State) : Result := .next ({ s with r := s.a }.advance 2)

/-! ### Index halves -/

/-- `LD r,IXH` (R417). -/
def execLdRIXH (t : Reg8) (s : State) : Result := .next ((s.set t (s.half .ix .high)).advance 2)

/-- `LD IXH,r` (R417). -/
def execLdIXHR (r : Reg8) (s : State) : Result := .next ((s.setHalf .ix .high (s.get r)).advance 2)

/-- `LD IXH,n` (R417). -/
def execLdIXHN (n : Byte) (s : State) : Result := .next ((s.setHalf .ix .high n).advance 3)

/-- `LD IXH,IXH` (R417). -/
def execLdIXHIXH (s : State) : Result := .next ((s.setHalf .ix .high (s.half .ix .high)).advance 2)

/-- `LD IXH,IXL` (R417). -/
def execLdIXHIXL (s : State) : Result := .next ((s.setHalf .ix .high (s.half .ix .low)).advance 2)

/-- `LD r,IXL` (R417). -/
def execLdRIXL (t : Reg8) (s : State) : Result := .next ((s.set t (s.half .ix .low)).advance 2)

/-- `LD IXL,r` (R417). -/
def execLdIXLR (r : Reg8) (s : State) : Result := .next ((s.setHalf .ix .low (s.get r)).advance 2)

/-- `LD IXL,n` (R417). -/
def execLdIXLN (n : Byte) (s : State) : Result := .next ((s.setHalf .ix .low n).advance 3)

/-- `LD IXL,IXH` (R417). -/
def execLdIXLIXH (s : State) : Result := .next ((s.setHalf .ix .low (s.half .ix .high)).advance 2)

/-- `LD IXL,IXL` (R417). -/
def execLdIXLIXL (s : State) : Result := .next ((s.setHalf .ix .low (s.half .ix .low)).advance 2)

/-- `LD r,IYH` (R417). -/
def execLdRIYH (t : Reg8) (s : State) : Result := .next ((s.set t (s.half .iy .high)).advance 2)

/-- `LD IYH,r` (R417). -/
def execLdIYHR (r : Reg8) (s : State) : Result := .next ((s.setHalf .iy .high (s.get r)).advance 2)

/-- `LD IYH,n` (R417). -/
def execLdIYHN (n : Byte) (s : State) : Result := .next ((s.setHalf .iy .high n).advance 3)

/-- `LD IYH,IYH` (R417). -/
def execLdIYHIYH (s : State) : Result := .next ((s.setHalf .iy .high (s.half .iy .high)).advance 2)

/-- `LD IYH,IYL` (R417). -/
def execLdIYHIYL (s : State) : Result := .next ((s.setHalf .iy .high (s.half .iy .low)).advance 2)

/-- `LD r,IYL` (R417). -/
def execLdRIYL (t : Reg8) (s : State) : Result := .next ((s.set t (s.half .iy .low)).advance 2)

/-- `LD IYL,r` (R417). -/
def execLdIYLR (r : Reg8) (s : State) : Result := .next ((s.setHalf .iy .low (s.get r)).advance 2)

/-- `LD IYL,n` (R417). -/
def execLdIYLN (n : Byte) (s : State) : Result := .next ((s.setHalf .iy .low n).advance 3)

/-- `LD IYL,IYH` (R417). -/
def execLdIYLIYH (s : State) : Result := .next ((s.setHalf .iy .low (s.half .iy .high)).advance 2)

/-- `LD IYL,IYL` (R417). -/
def execLdIYLIYL (s : State) : Result := .next ((s.setHalf .iy .low (s.half .iy .low)).advance 2)

/-! ## 16-bit loads -/

/-- `LD rr,nn` (R418). -/
def execLdRRNN (q : Pair) (nn : Word) (s : State) : Result := .next ((s.setPair q nn).advance 3)

/-- `LD IX,nn` (R419). -/
def execLdIXNN (nn : Word) (s : State) : Result := .next ((s.setIndex .ix nn).advance 4)

/-- `LD IY,nn` (R419). -/
def execLdIYNN (nn : Word) (s : State) : Result := .next ((s.setIndex .iy nn).advance 4)

/-- `LD HL,(nn)` (R420). -/
def execLdHLAtNN (nn : Word) (s : State) : Result := .next ((s.setHL (s.read16 nn)).advance 3)

/-- `LD rr,(nn)` (R421). -/
def execLdRRAtNN (q : Pair) (nn : Word) (s : State) : Result := .next ((s.setPair q (s.read16 nn)).advance 4)

/-- `LD IX,(nn)` (R422). -/
def execLdIXAtNN (nn : Word) (s : State) : Result := .next ((s.setIndex .ix (s.read16 nn)).advance 4)

/-- `LD IY,(nn)` (R422). -/
def execLdIYAtNN (nn : Word) (s : State) : Result := .next ((s.setIndex .iy (s.read16 nn)).advance 4)

/-- `LD (nn),HL` (R423). -/
def execLdAtNNHL (nn : Word) (s : State) : Result := .next ((s.write16 nn s.hl).advance 3)

/-- `LD (nn),rr` (R424). -/
def execLdAtNNRR (q : Pair) (nn : Word) (s : State) : Result := .next ((s.write16 nn (s.pair q)).advance 4)

/-- `LD (nn),IX` (R425). -/
def execLdAtNNIX (nn : Word) (s : State) : Result := .next ((s.write16 nn s.ix).advance 4)

/-- `LD (nn),IY` (R425). -/
def execLdAtNNIY (nn : Word) (s : State) : Result := .next ((s.write16 nn s.iy).advance 4)

/-- `LD SP,HL` (R426). -/
def execLdSPHL (s : State) : Result := .next ((s.setSP s.hl).advance 1)

/-- `LD SP,IX` (R427). -/
def execLdSPIX (s : State) : Result := .next ((s.setSP s.ix).advance 2)

/-- `LD SP,IY` (R427). -/
def execLdSPIY (s : State) : Result := .next ((s.setSP s.iy).advance 2)

end Sys2Proof.Machine
end

