-- ==== Sys2Proof/Machine/Pixel.lean ====
section
/-! DEFINITION. Screen address instructions (48_pixel.md). No flag is written. -/

namespace Sys2Proof.Machine

/-- The address of the byte that holds the pixel in column `x` of line `y` (R880). -/
def pixelAddress (x y : Byte) : Word :=
  0x4000 ||| zext16 (y &&& 0xC0) <<< 5 ||| zext16 (y &&& 0x07) <<< 8 ||| zext16 (y &&& 0x38) <<< 2
    ||| zext16 (x >>> 3)

/-- The address one line of pixels below (R881). -/
def pixelBelow (a : Word) : Word :=
  if a &&& 0x0700 ≠ 0x0700 then a + 0x0100
  else if a &&& 0x00E0 ≠ 0x00E0 then (a &&& 0xF8FF) + 0x0020
  else (a &&& 0xF81F) + 0x0800

/-- `PIXELAD` (R880). -/
def execPixelad (s : State) : Result := .next ((s.setHL (pixelAddress s.e s.d)).advance 2)

/-- `PIXELDN` (R881). -/
def execPixeldn (s : State) : Result := .next ((s.setHL (pixelBelow s.hl)).advance 2)

end Sys2Proof.Machine
end

