-- ==== Sys2Proof/Machine/Shift.lean ====
section
/-! DEFINITION. Rotates and shifts (43_rotate_shift_bit.md R600 to R615). -/

namespace Sys2Proof.Machine

/-! ## The eight operations: the result and the flags, from the operand and `CF` (R605 to R612) -/

/-- RLC (R605). -/
def rlc (v : Byte) (_ : Bool) : Byte × Named :=
  let res := v <<< 1 ||| v >>> 7
  (res, shiftFlags res (v.getLsbD 7))

/-- RRC (R606). -/
def rrc (v : Byte) (_ : Bool) : Byte × Named :=
  let res := v >>> 1 ||| v <<< 7
  (res, shiftFlags res (v.getLsbD 0))

/-- RL (R607). -/
def rl (v : Byte) (cf : Bool) : Byte × Named :=
  let res := v <<< 1 ||| (BitVec.ofBool cf).zeroExtend 8
  (res, shiftFlags res (v.getLsbD 7))

/-- RR (R608). -/
def rr (v : Byte) (cf : Bool) : Byte × Named :=
  let res := v >>> 1 ||| (BitVec.ofBool cf).zeroExtend 8 <<< 7
  (res, shiftFlags res (v.getLsbD 0))

/-- SLA (R609). -/
def sla (v : Byte) (_ : Bool) : Byte × Named :=
  let res := v <<< 1
  (res, shiftFlags res (v.getLsbD 7))

/-- SRA (R610). -/
def sra (v : Byte) (_ : Bool) : Byte × Named :=
  let res := v >>> 1 ||| v &&& 0x80
  (res, shiftFlags res (v.getLsbD 0))

/-- SLI (R611). -/
def sli (v : Byte) (_ : Bool) : Byte × Named :=
  let res := v <<< 1 ||| 1
  (res, shiftFlags res (v.getLsbD 7))

/-- SRL (R612). -/
def srl (v : Byte) (_ : Bool) : Byte × Named :=
  let res := v >>> 1
  (res, shiftFlags res (v.getLsbD 0))

/-! ## Accumulator rotates -/

/-- `A` takes the result of a rotate; of its flags only HF, NF and CF are written (R600 to R603). -/
def State.rotateA (s : State) (op : Byte → Bool → Byte × Named) : State :=
  let r := op s.a s.f.cf
  (s.set .a r.1).setFlags { s.f.named with hf := false, nf := false, cf := r.2.cf }

/-- `RLCA` (R600). -/
def execRlca (s : State) : Result := .next ((s.rotateA rlc).advance 1)

/-- `RLA` (R601). -/
def execRla (s : State) : Result := .next ((s.rotateA rl).advance 1)

/-- `RRCA` (R602). -/
def execRrca (s : State) : Result := .next ((s.rotateA rrc).advance 1)

/-- `RRA` (R603). -/
def execRra (s : State) : Result := .next ((s.rotateA rr).advance 1)

/-! ## On a register or a memory byte (R604, R613) -/

/-- `RLC r` (R605). -/
def execRlcR (r : Reg8) (s : State) : Result := .next ((s.modifyReg rlc r).advance 2)

/-- `RLC (HL)` (R605). -/
def execRlcAtHL (s : State) : Result := .next ((s.modifyAt rlc s.hl).advance 2)

/-- `RLC (IX+d)` (R605). -/
def execRlcAtIXd (d : Byte) (s : State) : Result := .next ((s.modifyAt rlc (s.indexed .ix d)).advance 4)

/-- `RLC (IX+d),r` (R613). -/
def execRlcAtIXdR (d : Byte) (r : Reg8) (s : State) : Result :=
  .next ((s.modifyAtCopy rlc (s.indexed .ix d) r).advance 4)

/-- `RLC (IY+d)` (R605). -/
def execRlcAtIYd (d : Byte) (s : State) : Result := .next ((s.modifyAt rlc (s.indexed .iy d)).advance 4)

/-- `RLC (IY+d),r` (R613). -/
def execRlcAtIYdR (d : Byte) (r : Reg8) (s : State) : Result :=
  .next ((s.modifyAtCopy rlc (s.indexed .iy d) r).advance 4)

/-- `RRC r` (R606). -/
def execRrcR (r : Reg8) (s : State) : Result := .next ((s.modifyReg rrc r).advance 2)

/-- `RRC (HL)` (R606). -/
def execRrcAtHL (s : State) : Result := .next ((s.modifyAt rrc s.hl).advance 2)

/-- `RRC (IX+d)` (R606). -/
def execRrcAtIXd (d : Byte) (s : State) : Result := .next ((s.modifyAt rrc (s.indexed .ix d)).advance 4)

/-- `RRC (IX+d),r` (R613). -/
def execRrcAtIXdR (d : Byte) (r : Reg8) (s : State) : Result :=
  .next ((s.modifyAtCopy rrc (s.indexed .ix d) r).advance 4)

/-- `RRC (IY+d)` (R606). -/
def execRrcAtIYd (d : Byte) (s : State) : Result := .next ((s.modifyAt rrc (s.indexed .iy d)).advance 4)

/-- `RRC (IY+d),r` (R613). -/
def execRrcAtIYdR (d : Byte) (r : Reg8) (s : State) : Result :=
  .next ((s.modifyAtCopy rrc (s.indexed .iy d) r).advance 4)

/-- `RL r` (R607). -/
def execRlR (r : Reg8) (s : State) : Result := .next ((s.modifyReg rl r).advance 2)

/-- `RL (HL)` (R607). -/
def execRlAtHL (s : State) : Result := .next ((s.modifyAt rl s.hl).advance 2)

/-- `RL (IX+d)` (R607). -/
def execRlAtIXd (d : Byte) (s : State) : Result := .next ((s.modifyAt rl (s.indexed .ix d)).advance 4)

/-- `RL (IX+d),r` (R613). -/
def execRlAtIXdR (d : Byte) (r : Reg8) (s : State) : Result :=
  .next ((s.modifyAtCopy rl (s.indexed .ix d) r).advance 4)

/-- `RL (IY+d)` (R607). -/
def execRlAtIYd (d : Byte) (s : State) : Result := .next ((s.modifyAt rl (s.indexed .iy d)).advance 4)

/-- `RL (IY+d),r` (R613). -/
def execRlAtIYdR (d : Byte) (r : Reg8) (s : State) : Result :=
  .next ((s.modifyAtCopy rl (s.indexed .iy d) r).advance 4)

/-- `RR r` (R608). -/
def execRrR (r : Reg8) (s : State) : Result := .next ((s.modifyReg rr r).advance 2)

/-- `RR (HL)` (R608). -/
def execRrAtHL (s : State) : Result := .next ((s.modifyAt rr s.hl).advance 2)

/-- `RR (IX+d)` (R608). -/
def execRrAtIXd (d : Byte) (s : State) : Result := .next ((s.modifyAt rr (s.indexed .ix d)).advance 4)

/-- `RR (IX+d),r` (R613). -/
def execRrAtIXdR (d : Byte) (r : Reg8) (s : State) : Result :=
  .next ((s.modifyAtCopy rr (s.indexed .ix d) r).advance 4)

/-- `RR (IY+d)` (R608). -/
def execRrAtIYd (d : Byte) (s : State) : Result := .next ((s.modifyAt rr (s.indexed .iy d)).advance 4)

/-- `RR (IY+d),r` (R613). -/
def execRrAtIYdR (d : Byte) (r : Reg8) (s : State) : Result :=
  .next ((s.modifyAtCopy rr (s.indexed .iy d) r).advance 4)

/-- `SLA r` (R609). -/
def execSlaR (r : Reg8) (s : State) : Result := .next ((s.modifyReg sla r).advance 2)

/-- `SLA (HL)` (R609). -/
def execSlaAtHL (s : State) : Result := .next ((s.modifyAt sla s.hl).advance 2)

/-- `SLA (IX+d)` (R609). -/
def execSlaAtIXd (d : Byte) (s : State) : Result := .next ((s.modifyAt sla (s.indexed .ix d)).advance 4)

/-- `SLA (IX+d),r` (R613). -/
def execSlaAtIXdR (d : Byte) (r : Reg8) (s : State) : Result :=
  .next ((s.modifyAtCopy sla (s.indexed .ix d) r).advance 4)

/-- `SLA (IY+d)` (R609). -/
def execSlaAtIYd (d : Byte) (s : State) : Result := .next ((s.modifyAt sla (s.indexed .iy d)).advance 4)

/-- `SLA (IY+d),r` (R613). -/
def execSlaAtIYdR (d : Byte) (r : Reg8) (s : State) : Result :=
  .next ((s.modifyAtCopy sla (s.indexed .iy d) r).advance 4)

/-- `SRA r` (R610). -/
def execSraR (r : Reg8) (s : State) : Result := .next ((s.modifyReg sra r).advance 2)

/-- `SRA (HL)` (R610). -/
def execSraAtHL (s : State) : Result := .next ((s.modifyAt sra s.hl).advance 2)

/-- `SRA (IX+d)` (R610). -/
def execSraAtIXd (d : Byte) (s : State) : Result := .next ((s.modifyAt sra (s.indexed .ix d)).advance 4)

/-- `SRA (IX+d),r` (R613). -/
def execSraAtIXdR (d : Byte) (r : Reg8) (s : State) : Result :=
  .next ((s.modifyAtCopy sra (s.indexed .ix d) r).advance 4)

/-- `SRA (IY+d)` (R610). -/
def execSraAtIYd (d : Byte) (s : State) : Result := .next ((s.modifyAt sra (s.indexed .iy d)).advance 4)

/-- `SRA (IY+d),r` (R613). -/
def execSraAtIYdR (d : Byte) (r : Reg8) (s : State) : Result :=
  .next ((s.modifyAtCopy sra (s.indexed .iy d) r).advance 4)

/-- `SLI r` (R611). -/
def execSliR (r : Reg8) (s : State) : Result := .next ((s.modifyReg sli r).advance 2)

/-- `SLI (HL)` (R611). -/
def execSliAtHL (s : State) : Result := .next ((s.modifyAt sli s.hl).advance 2)

/-- `SLI (IX+d)` (R611). -/
def execSliAtIXd (d : Byte) (s : State) : Result := .next ((s.modifyAt sli (s.indexed .ix d)).advance 4)

/-- `SLI (IX+d),r` (R613). -/
def execSliAtIXdR (d : Byte) (r : Reg8) (s : State) : Result :=
  .next ((s.modifyAtCopy sli (s.indexed .ix d) r).advance 4)

/-- `SLI (IY+d)` (R611). -/
def execSliAtIYd (d : Byte) (s : State) : Result := .next ((s.modifyAt sli (s.indexed .iy d)).advance 4)

/-- `SLI (IY+d),r` (R613). -/
def execSliAtIYdR (d : Byte) (r : Reg8) (s : State) : Result :=
  .next ((s.modifyAtCopy sli (s.indexed .iy d) r).advance 4)

/-- `SRL r` (R612). -/
def execSrlR (r : Reg8) (s : State) : Result := .next ((s.modifyReg srl r).advance 2)

/-- `SRL (HL)` (R612). -/
def execSrlAtHL (s : State) : Result := .next ((s.modifyAt srl s.hl).advance 2)

/-- `SRL (IX+d)` (R612). -/
def execSrlAtIXd (d : Byte) (s : State) : Result := .next ((s.modifyAt srl (s.indexed .ix d)).advance 4)

/-- `SRL (IX+d),r` (R613). -/
def execSrlAtIXdR (d : Byte) (r : Reg8) (s : State) : Result :=
  .next ((s.modifyAtCopy srl (s.indexed .ix d) r).advance 4)

/-- `SRL (IY+d)` (R612). -/
def execSrlAtIYd (d : Byte) (s : State) : Result := .next ((s.modifyAt srl (s.indexed .iy d)).advance 4)

/-- `SRL (IY+d),r` (R613). -/
def execSrlAtIYdR (d : Byte) (r : Reg8) (s : State) : Result :=
  .next ((s.modifyAtCopy srl (s.indexed .iy d) r).advance 4)

/-! ## Nibble rotates -/

/-- The memory byte and `A` of RLD, with its flags (R614). -/
def State.nibbles (s : State) (m a : Byte) : State :=
  ((s.write s.hl m).set .a a).setFlags (shiftFlags a s.f.cf)

/-- `RLD` (R614). -/
def execRld (s : State) : Result :=
  let m := s.read s.hl
  .next ((s.nibbles (m <<< 4 ||| s.a &&& 0x0F) (s.a &&& 0xF0 ||| m >>> 4)).advance 2)

/-- `RRD` (R615). -/
def execRrd (s : State) : Result :=
  let m := s.read s.hl
  .next ((s.nibbles ((s.a &&& 0x0F) <<< 4 ||| m >>> 4) (s.a &&& 0xF0 ||| m &&& 0x0F)).advance 2)

end Sys2Proof.Machine
end

