-- ==== Sys2Proof/Machine/System.lean ====
section
/-! DEFINITION. CPU control (47_system.md). No form writes a flag. -/

namespace Sys2Proof.Machine

/-- `NOP` (R850). -/
def execNop (s : State) : Result := .next (s.advance 1)

/-- `HALT` (R851). -/
def execHalt (s : State) : Result := .next ({ s with halted := true }.advance 1)

/-- What DI does to the flip-flops, at once or at the end of the next instruction (R852, D9, log 9). -/
def State.disable (s : State) : State :=
  if s.cfg.diDelay then { s with diPending := true } else { s with iff1 := false, iff2 := false }

/-- `DI` (R852). -/
def execDi (s : State) : Result := .next (s.disable.advance 1)

/-- `EI` (R853). -/
def execEi (s : State) : Result := .next ({ s with iff1 := true, iff2 := true, intInhibit := true }.advance 1)

/-- `IM 0` (R854). -/
def execIm0 (s : State) : Result := .next ({ s with im := .im0 }.advance 2)

/-- `IM 1` (R854). -/
def execIm1 (s : State) : Result := .next ({ s with im := .im1 }.advance 2)

/-- `IM 2` (R854). -/
def execIm2 (s : State) : Result := .next ({ s with im := .im2 }.advance 2)

/-- `RETI` (R855; the flip-flops stay, D24). -/
def execReti (s : State) : Result := .next s.leave

/-- `RETN` (R856). -/
def execRetn (s : State) : Result := .next { s.leave with iff1 := s.iff2 }

end Sys2Proof.Machine
end

