-- ==== Sys2Proof/Machine/Dispatch.lean ====
section
/-! DEFINITION. The meaning of every instruction, one arm per constructor. -/

namespace Sys2Proof.Machine

def exec (i : Instr) (s : State) : Host.Outcome State Fault Refusal :=
  match i with
  | .ldRR t r => Sys2Proof.Machine.execLdRR t r s
  | .ldRN t n => Sys2Proof.Machine.execLdRN t n s
  | .ldRAtHL t => Sys2Proof.Machine.execLdRAtHL t s
  | .ldAtHLR r => Sys2Proof.Machine.execLdAtHLR r s
  | .ldAtHLN n => Sys2Proof.Machine.execLdAtHLN n s
  | .ldRAtIXd t d => Sys2Proof.Machine.execLdRAtIXd t d s
  | .ldAtIXdR d r => Sys2Proof.Machine.execLdAtIXdR d r s
  | .ldAtIXdN d n => Sys2Proof.Machine.execLdAtIXdN d n s
  | .ldRAtIYd t d => Sys2Proof.Machine.execLdRAtIYd t d s
  | .ldAtIYdR d r => Sys2Proof.Machine.execLdAtIYdR d r s
  | .ldAtIYdN d n => Sys2Proof.Machine.execLdAtIYdN d n s
  | .ldAAtNN nn => Sys2Proof.Machine.execLdAAtNN nn s
  | .ldAtNNA nn => Sys2Proof.Machine.execLdAtNNA nn s
  | .ldRIXH t => Sys2Proof.Machine.execLdRIXH t s
  | .ldIXHR r => Sys2Proof.Machine.execLdIXHR r s
  | .ldIXHN n => Sys2Proof.Machine.execLdIXHN n s
  | .ldRIXL t => Sys2Proof.Machine.execLdRIXL t s
  | .ldIXLR r => Sys2Proof.Machine.execLdIXLR r s
  | .ldIXLN n => Sys2Proof.Machine.execLdIXLN n s
  | .ldRIYH t => Sys2Proof.Machine.execLdRIYH t s
  | .ldIYHR r => Sys2Proof.Machine.execLdIYHR r s
  | .ldIYHN n => Sys2Proof.Machine.execLdIYHN n s
  | .ldRIYL t => Sys2Proof.Machine.execLdRIYL t s
  | .ldIYLR r => Sys2Proof.Machine.execLdIYLR r s
  | .ldIYLN n => Sys2Proof.Machine.execLdIYLN n s
  | .ldRRNN q nn => Sys2Proof.Machine.execLdRRNN q nn s
  | .ldHLAtNN nn => Sys2Proof.Machine.execLdHLAtNN nn s
  | .ldAtNNHL nn => Sys2Proof.Machine.execLdAtNNHL nn s
  | .ldRRAtNN q nn => Sys2Proof.Machine.execLdRRAtNN q nn s
  | .ldAtNNRR q nn => Sys2Proof.Machine.execLdAtNNRR q nn s
  | .ldIXNN nn => Sys2Proof.Machine.execLdIXNN nn s
  | .ldIXAtNN nn => Sys2Proof.Machine.execLdIXAtNN nn s
  | .ldAtNNIX nn => Sys2Proof.Machine.execLdAtNNIX nn s
  | .ldIYNN nn => Sys2Proof.Machine.execLdIYNN nn s
  | .ldIYAtNN nn => Sys2Proof.Machine.execLdIYAtNN nn s
  | .ldAtNNIY nn => Sys2Proof.Machine.execLdAtNNIY nn s
  | .pushRR q => Sys2Proof.Machine.execPushRR q s
  | .popRR q => Sys2Proof.Machine.execPopRR q s
  | .pushNN nn => Sys2Proof.Machine.execPushNN nn s
  | .addAR r => Sys2Proof.Machine.execAddAR r s
  | .addAN n => Sys2Proof.Machine.execAddAN n s
  | .addAAtIXd d => Sys2Proof.Machine.execAddAAtIXd d s
  | .addAAtIYd d => Sys2Proof.Machine.execAddAAtIYd d s
  | .adcAR r => Sys2Proof.Machine.execAdcAR r s
  | .adcAN n => Sys2Proof.Machine.execAdcAN n s
  | .adcAAtIXd d => Sys2Proof.Machine.execAdcAAtIXd d s
  | .adcAAtIYd d => Sys2Proof.Machine.execAdcAAtIYd d s
  | .subR r => Sys2Proof.Machine.execSubR r s
  | .subN n => Sys2Proof.Machine.execSubN n s
  | .subAtIXd d => Sys2Proof.Machine.execSubAtIXd d s
  | .subAtIYd d => Sys2Proof.Machine.execSubAtIYd d s
  | .sbcAR r => Sys2Proof.Machine.execSbcAR r s
  | .sbcAN n => Sys2Proof.Machine.execSbcAN n s
  | .sbcAAtIXd d => Sys2Proof.Machine.execSbcAAtIXd d s
  | .sbcAAtIYd d => Sys2Proof.Machine.execSbcAAtIYd d s
  | .andR r => Sys2Proof.Machine.execAndR r s
  | .andN n => Sys2Proof.Machine.execAndN n s
  | .andAtIXd d => Sys2Proof.Machine.execAndAtIXd d s
  | .andAtIYd d => Sys2Proof.Machine.execAndAtIYd d s
  | .xorR r => Sys2Proof.Machine.execXorR r s
  | .xorN n => Sys2Proof.Machine.execXorN n s
  | .xorAtIXd d => Sys2Proof.Machine.execXorAtIXd d s
  | .xorAtIYd d => Sys2Proof.Machine.execXorAtIYd d s
  | .orR r => Sys2Proof.Machine.execOrR r s
  | .orN n => Sys2Proof.Machine.execOrN n s
  | .orAtIXd d => Sys2Proof.Machine.execOrAtIXd d s
  | .orAtIYd d => Sys2Proof.Machine.execOrAtIYd d s
  | .cpR r => Sys2Proof.Machine.execCpR r s
  | .cpN n => Sys2Proof.Machine.execCpN n s
  | .cpAtIXd d => Sys2Proof.Machine.execCpAtIXd d s
  | .cpAtIYd d => Sys2Proof.Machine.execCpAtIYd d s
  | .incR t => Sys2Proof.Machine.execIncR t s
  | .incAtIXd d => Sys2Proof.Machine.execIncAtIXd d s
  | .incAtIYd d => Sys2Proof.Machine.execIncAtIYd d s
  | .decR t => Sys2Proof.Machine.execDecR t s
  | .decAtIXd d => Sys2Proof.Machine.execDecAtIXd d s
  | .decAtIYd d => Sys2Proof.Machine.execDecAtIYd d s
  | .testN n => Sys2Proof.Machine.execTestN n s
  | .addHLRR q => Sys2Proof.Machine.execAddHLRR q s
  | .addIXRR q => Sys2Proof.Machine.execAddIXRR q s
  | .addIYRR q => Sys2Proof.Machine.execAddIYRR q s
  | .adcHLRR q => Sys2Proof.Machine.execAdcHLRR q s
  | .sbcHLRR q => Sys2Proof.Machine.execSbcHLRR q s
  | .incRR q => Sys2Proof.Machine.execIncRR q s
  | .decRR q => Sys2Proof.Machine.execDecRR q s
  | .addHLNN nn => Sys2Proof.Machine.execAddHLNN nn s
  | .addDENN nn => Sys2Proof.Machine.execAddDENN nn s
  | .addBCNN nn => Sys2Proof.Machine.execAddBCNN nn s
  | .rlcR r => Sys2Proof.Machine.execRlcR r s
  | .rlcAtIXd d => Sys2Proof.Machine.execRlcAtIXd d s
  | .rlcAtIXdR d r => Sys2Proof.Machine.execRlcAtIXdR d r s
  | .rlcAtIYd d => Sys2Proof.Machine.execRlcAtIYd d s
  | .rlcAtIYdR d r => Sys2Proof.Machine.execRlcAtIYdR d r s
  | .rrcR r => Sys2Proof.Machine.execRrcR r s
  | .rrcAtIXd d => Sys2Proof.Machine.execRrcAtIXd d s
  | .rrcAtIXdR d r => Sys2Proof.Machine.execRrcAtIXdR d r s
  | .rrcAtIYd d => Sys2Proof.Machine.execRrcAtIYd d s
  | .rrcAtIYdR d r => Sys2Proof.Machine.execRrcAtIYdR d r s
  | .rlR r => Sys2Proof.Machine.execRlR r s
  | .rlAtIXd d => Sys2Proof.Machine.execRlAtIXd d s
  | .rlAtIXdR d r => Sys2Proof.Machine.execRlAtIXdR d r s
  | .rlAtIYd d => Sys2Proof.Machine.execRlAtIYd d s
  | .rlAtIYdR d r => Sys2Proof.Machine.execRlAtIYdR d r s
  | .rrR r => Sys2Proof.Machine.execRrR r s
  | .rrAtIXd d => Sys2Proof.Machine.execRrAtIXd d s
  | .rrAtIXdR d r => Sys2Proof.Machine.execRrAtIXdR d r s
  | .rrAtIYd d => Sys2Proof.Machine.execRrAtIYd d s
  | .rrAtIYdR d r => Sys2Proof.Machine.execRrAtIYdR d r s
  | .slaR r => Sys2Proof.Machine.execSlaR r s
  | .slaAtIXd d => Sys2Proof.Machine.execSlaAtIXd d s
  | .slaAtIXdR d r => Sys2Proof.Machine.execSlaAtIXdR d r s
  | .slaAtIYd d => Sys2Proof.Machine.execSlaAtIYd d s
  | .slaAtIYdR d r => Sys2Proof.Machine.execSlaAtIYdR d r s
  | .sraR r => Sys2Proof.Machine.execSraR r s
  | .sraAtIXd d => Sys2Proof.Machine.execSraAtIXd d s
  | .sraAtIXdR d r => Sys2Proof.Machine.execSraAtIXdR d r s
  | .sraAtIYd d => Sys2Proof.Machine.execSraAtIYd d s
  | .sraAtIYdR d r => Sys2Proof.Machine.execSraAtIYdR d r s
  | .sliR r => Sys2Proof.Machine.execSliR r s
  | .sliAtIXd d => Sys2Proof.Machine.execSliAtIXd d s
  | .sliAtIXdR d r => Sys2Proof.Machine.execSliAtIXdR d r s
  | .sliAtIYd d => Sys2Proof.Machine.execSliAtIYd d s
  | .sliAtIYdR d r => Sys2Proof.Machine.execSliAtIYdR d r s
  | .srlR r => Sys2Proof.Machine.execSrlR r s
  | .srlAtIXd d => Sys2Proof.Machine.execSrlAtIXd d s
  | .srlAtIXdR d r => Sys2Proof.Machine.execSrlAtIXdR d r s
  | .srlAtIYd d => Sys2Proof.Machine.execSrlAtIYd d s
  | .srlAtIYdR d r => Sys2Proof.Machine.execSrlAtIYdR d r s
  | .bitBR b r => Sys2Proof.Machine.execBitBR b r s
  | .bitBAtHL b => Sys2Proof.Machine.execBitBAtHL b s
  | .resBR b r => Sys2Proof.Machine.execResBR b r s
  | .resBAtHL b => Sys2Proof.Machine.execResBAtHL b s
  | .setBR b r => Sys2Proof.Machine.execSetBR b r s
  | .setBAtHL b => Sys2Proof.Machine.execSetBAtHL b s
  | .bitBAtIXd b d => Sys2Proof.Machine.execBitBAtIXd b d s
  | .resBAtIXd b d => Sys2Proof.Machine.execResBAtIXd b d s
  | .setBAtIXd b d => Sys2Proof.Machine.execSetBAtIXd b d s
  | .resBAtIXdR b d r => Sys2Proof.Machine.execResBAtIXdR b d r s
  | .setBAtIXdR b d r => Sys2Proof.Machine.execSetBAtIXdR b d r s
  | .bitBAtIYd b d => Sys2Proof.Machine.execBitBAtIYd b d s
  | .resBAtIYd b d => Sys2Proof.Machine.execResBAtIYd b d s
  | .setBAtIYd b d => Sys2Proof.Machine.execSetBAtIYd b d s
  | .resBAtIYdR b d r => Sys2Proof.Machine.execResBAtIYdR b d r s
  | .setBAtIYdR b d r => Sys2Proof.Machine.execSetBAtIYdR b d r s
  | .jpNN nn => Sys2Proof.Machine.execJpNN nn s
  | .jpCondNN cc nn => Sys2Proof.Machine.execJpCondNN cc nn s
  | .jrE e => Sys2Proof.Machine.execJrE e s
  | .jrCondE cc e => Sys2Proof.Machine.execJrCondE cc e s
  | .djnzE e => Sys2Proof.Machine.execDjnzE e s
  | .callNN nn => Sys2Proof.Machine.execCallNN nn s
  | .callCondNN cc nn => Sys2Proof.Machine.execCallCondNN cc nn s
  | .retCond cc => Sys2Proof.Machine.execRetCond cc s
  | .rstN v => Sys2Proof.Machine.execRstN v s
  | .inAAtN n => Sys2Proof.Machine.execInAAtN n s
  | .inRAtC t => Sys2Proof.Machine.execInRAtC t s
  | .outAtNA n => Sys2Proof.Machine.execOutAtNA n s
  | .outAtCR t => Sys2Proof.Machine.execOutAtCR t s
  | .nextregNN g n => Sys2Proof.Machine.execNextregNN g n s
  | .nextregNA g => Sys2Proof.Machine.execNextregNA g s
  | .ldAAtBC => Sys2Proof.Machine.execLdAAtBC s
  | .ldAAtDE => Sys2Proof.Machine.execLdAAtDE s
  | .ldAtBCA => Sys2Proof.Machine.execLdAtBCA s
  | .ldAtDEA => Sys2Proof.Machine.execLdAtDEA s
  | .ldAI => Sys2Proof.Machine.execLdAI s
  | .ldARfsh => Sys2Proof.Machine.execLdARfsh s
  | .ldIA => Sys2Proof.Machine.execLdIA s
  | .ldRfshA => Sys2Proof.Machine.execLdRfshA s
  | .ldIXHIXH => Sys2Proof.Machine.execLdIXHIXH s
  | .ldIXHIXL => Sys2Proof.Machine.execLdIXHIXL s
  | .ldIXLIXH => Sys2Proof.Machine.execLdIXLIXH s
  | .ldIXLIXL => Sys2Proof.Machine.execLdIXLIXL s
  | .ldIYHIYH => Sys2Proof.Machine.execLdIYHIYH s
  | .ldIYHIYL => Sys2Proof.Machine.execLdIYHIYL s
  | .ldIYLIYH => Sys2Proof.Machine.execLdIYLIYH s
  | .ldIYLIYL => Sys2Proof.Machine.execLdIYLIYL s
  | .ldSPHL => Sys2Proof.Machine.execLdSPHL s
  | .ldSPIX => Sys2Proof.Machine.execLdSPIX s
  | .ldSPIY => Sys2Proof.Machine.execLdSPIY s
  | .pushIX => Sys2Proof.Machine.execPushIX s
  | .popIX => Sys2Proof.Machine.execPopIX s
  | .pushIY => Sys2Proof.Machine.execPushIY s
  | .popIY => Sys2Proof.Machine.execPopIY s
  | .exAFAFAlt => Sys2Proof.Machine.execExAFAFAlt s
  | .exDEHL => Sys2Proof.Machine.execExDEHL s
  | .exAtSPHL => Sys2Proof.Machine.execExAtSPHL s
  | .exAtSPIX => Sys2Proof.Machine.execExAtSPIX s
  | .exAtSPIY => Sys2Proof.Machine.execExAtSPIY s
  | .exx => Sys2Proof.Machine.execExx s
  | .addAAtHL => Sys2Proof.Machine.execAddAAtHL s
  | .addAIXH => Sys2Proof.Machine.execAddAIXH s
  | .addAIXL => Sys2Proof.Machine.execAddAIXL s
  | .addAIYH => Sys2Proof.Machine.execAddAIYH s
  | .addAIYL => Sys2Proof.Machine.execAddAIYL s
  | .adcAAtHL => Sys2Proof.Machine.execAdcAAtHL s
  | .adcAIXH => Sys2Proof.Machine.execAdcAIXH s
  | .adcAIXL => Sys2Proof.Machine.execAdcAIXL s
  | .adcAIYH => Sys2Proof.Machine.execAdcAIYH s
  | .adcAIYL => Sys2Proof.Machine.execAdcAIYL s
  | .subAtHL => Sys2Proof.Machine.execSubAtHL s
  | .subIXH => Sys2Proof.Machine.execSubIXH s
  | .subIXL => Sys2Proof.Machine.execSubIXL s
  | .subIYH => Sys2Proof.Machine.execSubIYH s
  | .subIYL => Sys2Proof.Machine.execSubIYL s
  | .sbcAAtHL => Sys2Proof.Machine.execSbcAAtHL s
  | .sbcAIXH => Sys2Proof.Machine.execSbcAIXH s
  | .sbcAIXL => Sys2Proof.Machine.execSbcAIXL s
  | .sbcAIYH => Sys2Proof.Machine.execSbcAIYH s
  | .sbcAIYL => Sys2Proof.Machine.execSbcAIYL s
  | .andAtHL => Sys2Proof.Machine.execAndAtHL s
  | .andIXH => Sys2Proof.Machine.execAndIXH s
  | .andIXL => Sys2Proof.Machine.execAndIXL s
  | .andIYH => Sys2Proof.Machine.execAndIYH s
  | .andIYL => Sys2Proof.Machine.execAndIYL s
  | .xorAtHL => Sys2Proof.Machine.execXorAtHL s
  | .xorIXH => Sys2Proof.Machine.execXorIXH s
  | .xorIXL => Sys2Proof.Machine.execXorIXL s
  | .xorIYH => Sys2Proof.Machine.execXorIYH s
  | .xorIYL => Sys2Proof.Machine.execXorIYL s
  | .orAtHL => Sys2Proof.Machine.execOrAtHL s
  | .orIXH => Sys2Proof.Machine.execOrIXH s
  | .orIXL => Sys2Proof.Machine.execOrIXL s
  | .orIYH => Sys2Proof.Machine.execOrIYH s
  | .orIYL => Sys2Proof.Machine.execOrIYL s
  | .cpAtHL => Sys2Proof.Machine.execCpAtHL s
  | .cpIXH => Sys2Proof.Machine.execCpIXH s
  | .cpIXL => Sys2Proof.Machine.execCpIXL s
  | .cpIYH => Sys2Proof.Machine.execCpIYH s
  | .cpIYL => Sys2Proof.Machine.execCpIYL s
  | .incAtHL => Sys2Proof.Machine.execIncAtHL s
  | .incIXH => Sys2Proof.Machine.execIncIXH s
  | .incIXL => Sys2Proof.Machine.execIncIXL s
  | .incIYH => Sys2Proof.Machine.execIncIYH s
  | .incIYL => Sys2Proof.Machine.execIncIYL s
  | .decAtHL => Sys2Proof.Machine.execDecAtHL s
  | .decIXH => Sys2Proof.Machine.execDecIXH s
  | .decIXL => Sys2Proof.Machine.execDecIXL s
  | .decIYH => Sys2Proof.Machine.execDecIYH s
  | .decIYL => Sys2Proof.Machine.execDecIYL s
  | .daa => Sys2Proof.Machine.execDaa s
  | .cpl => Sys2Proof.Machine.execCpl s
  | .neg => Sys2Proof.Machine.execNeg s
  | .ccf => Sys2Proof.Machine.execCcf s
  | .scf => Sys2Proof.Machine.execScf s
  | .incIX => Sys2Proof.Machine.execIncIX s
  | .decIX => Sys2Proof.Machine.execDecIX s
  | .incIY => Sys2Proof.Machine.execIncIY s
  | .decIY => Sys2Proof.Machine.execDecIY s
  | .addHLA => Sys2Proof.Machine.execAddHLA s
  | .addDEA => Sys2Proof.Machine.execAddDEA s
  | .addBCA => Sys2Proof.Machine.execAddBCA s
  | .mulDE => Sys2Proof.Machine.execMulDE s
  | .rlca => Sys2Proof.Machine.execRlca s
  | .rla => Sys2Proof.Machine.execRla s
  | .rrca => Sys2Proof.Machine.execRrca s
  | .rra => Sys2Proof.Machine.execRra s
  | .rlcAtHL => Sys2Proof.Machine.execRlcAtHL s
  | .rrcAtHL => Sys2Proof.Machine.execRrcAtHL s
  | .rlAtHL => Sys2Proof.Machine.execRlAtHL s
  | .rrAtHL => Sys2Proof.Machine.execRrAtHL s
  | .slaAtHL => Sys2Proof.Machine.execSlaAtHL s
  | .sraAtHL => Sys2Proof.Machine.execSraAtHL s
  | .sliAtHL => Sys2Proof.Machine.execSliAtHL s
  | .srlAtHL => Sys2Proof.Machine.execSrlAtHL s
  | .rld => Sys2Proof.Machine.execRld s
  | .rrd => Sys2Proof.Machine.execRrd s
  | .bslaDEB => Sys2Proof.Machine.execBslaDEB s
  | .bsraDEB => Sys2Proof.Machine.execBsraDEB s
  | .bsrlDEB => Sys2Proof.Machine.execBsrlDEB s
  | .bsrfDEB => Sys2Proof.Machine.execBsrfDEB s
  | .brlcDEB => Sys2Proof.Machine.execBrlcDEB s
  | .mirrorA => Sys2Proof.Machine.execMirrorA s
  | .swapnib => Sys2Proof.Machine.execSwapnib s
  | .setae => Sys2Proof.Machine.execSetae s
  | .jpAtHL => Sys2Proof.Machine.execJpAtHL s
  | .jpAtIX => Sys2Proof.Machine.execJpAtIX s
  | .jpAtIY => Sys2Proof.Machine.execJpAtIY s
  | .jpAtC => Sys2Proof.Machine.execJpAtC s
  | .ret => Sys2Proof.Machine.execRet s
  | .ldi => Sys2Proof.Machine.execLdi s
  | .ldir => Sys2Proof.Machine.execLdir s
  | .ldd => Sys2Proof.Machine.execLdd s
  | .lddr => Sys2Proof.Machine.execLddr s
  | .cpi => Sys2Proof.Machine.execCpi s
  | .cpir => Sys2Proof.Machine.execCpir s
  | .cpd => Sys2Proof.Machine.execCpd s
  | .cpdr => Sys2Proof.Machine.execCpdr s
  | .ldix => Sys2Proof.Machine.execLdix s
  | .ldirx => Sys2Proof.Machine.execLdirx s
  | .lddx => Sys2Proof.Machine.execLddx s
  | .lddrx => Sys2Proof.Machine.execLddrx s
  | .ldpirx => Sys2Proof.Machine.execLdpirx s
  | .ldws => Sys2Proof.Machine.execLdws s
  | .inAtC => Sys2Proof.Machine.execInAtC s
  | .outAtCZero => Sys2Proof.Machine.execOutAtCZero s
  | .ini => Sys2Proof.Machine.execIni s
  | .inir => Sys2Proof.Machine.execInir s
  | .ind => Sys2Proof.Machine.execInd s
  | .indr => Sys2Proof.Machine.execIndr s
  | .outi => Sys2Proof.Machine.execOuti s
  | .otir => Sys2Proof.Machine.execOtir s
  | .outd => Sys2Proof.Machine.execOutd s
  | .otdr => Sys2Proof.Machine.execOtdr s
  | .outinb => Sys2Proof.Machine.execOutinb s
  | .nop => Sys2Proof.Machine.execNop s
  | .halt => Sys2Proof.Machine.execHalt s
  | .di => Sys2Proof.Machine.execDi s
  | .ei => Sys2Proof.Machine.execEi s
  | .im0 => Sys2Proof.Machine.execIm0 s
  | .im1 => Sys2Proof.Machine.execIm1 s
  | .im2 => Sys2Proof.Machine.execIm2 s
  | .reti => Sys2Proof.Machine.execReti s
  | .retn => Sys2Proof.Machine.execRetn s
  | .pixelad => Sys2Proof.Machine.execPixelad s
  | .pixeldn => Sys2Proof.Machine.execPixeldn s

end Sys2Proof.Machine
end

