-- ==== Sys2Proof/Machine/Step.lean ====
section
/-! DEFINITION. One step of the machine, and placing an instruction where the next step fetches it. -/

namespace Sys2Proof.Machine

/-- One step: the boundary (R902), or else the instruction that the bytes at `PC` encode (R223, R313). -/
def step (s : State) : Host.Outcome State Fault Refusal :=
  match s.boundary with
  | some o => o
  | none =>
    match decode s.fetch with
    | .instr i => finishing s.diPending (exec i s.begin)
    | .rejected e => .refused (.reservedEncoding e)

/-- `s` with the instruction whose bits are `w` in memory at `PC`, nothing asserted at the coming boundary, and the
CPU not halted (log 16). -/
def State.withFetchWord (s : State) (nbits w : Nat) : State := s.loaded (tableBytes nbits w)

end Sys2Proof.Machine
end

