-- ==== Sys2Proof/Safety.lean ====
section
/-! DEFINITION. What a safe run keeps, and the terms that the statements are written in: the invariant, what each
instruction may touch (10_state.md R131 and the instruction rules), where it stores, and how a result is said
in exact arithmetic. Nothing here is used by the machine. -/

namespace Sys2Proof.Machine

/-! ## The invariant -/

/-- What every step keeps: memory in its canonical form, and the interrupt bits in the combinations that R852, R853,
R856, R903 and R908 can produce. -/
structure State.Inv (s : State) : Prop where
  mem_wf : s.mem.wf = true
  /-- `IFF1` is never 1 where `IFF2` is 0 (R109). -/
  iff1_iff2 : s.iff1 = true → s.iff2 = true
  /-- The CPU never halts with a pending EI or DI: the HALT itself was the instruction after it (R853). -/
  halted_settled : s.halted = true → s.intInhibit = false ∧ s.diPending = false
  /-- `di_pending` is used only under `di_delay` = 1 (R112 c). -/
  pending_delay : s.diPending = true → s.cfg.diDelay = true
  /-- One instruction sets at most one of the two, and the next one clears both. -/
  one_pending : s.intInhibit = true → s.diPending = false

/-! ## Frames -/

/-- A place of the machine's state. `PC` is left out (any instruction may move it), and so is `draws`, the model's own. -/
inductive Place where
  | a | sf | zf | f5 | hf | f3 | pv | nf | cf | b | c | d | e | h | l
  | a' | f' | b' | c' | d' | e' | h' | l' | ix | iy | sp | i | r | iff1 | iff2 | im | halted | intInhibit | diPending | mem | cfg | intSource | portIn | events
  deriving DecidableEq, Repr

/-- The place holds in `t` what it holds in `s`. -/
def Place.same (p : Place) (s t : State) : Prop :=
  match p with
  | .a => t.a = s.a
  | .sf => t.f.sf = s.f.sf
  | .zf => t.f.zf = s.f.zf
  | .f5 => t.f.f5 = s.f.f5
  | .hf => t.f.hf = s.f.hf
  | .f3 => t.f.f3 = s.f.f3
  | .pv => t.f.pv = s.f.pv
  | .nf => t.f.nf = s.f.nf
  | .cf => t.f.cf = s.f.cf
  | .b => t.b = s.b
  | .c => t.c = s.c
  | .d => t.d = s.d
  | .e => t.e = s.e
  | .h => t.h = s.h
  | .l => t.l = s.l
  | .a' => t.a' = s.a'
  | .f' => t.f' = s.f'
  | .b' => t.b' = s.b'
  | .c' => t.c' = s.c'
  | .d' => t.d' = s.d'
  | .e' => t.e' = s.e'
  | .h' => t.h' = s.h'
  | .l' => t.l' = s.l'
  | .ix => t.ix = s.ix
  | .iy => t.iy = s.iy
  | .sp => t.sp = s.sp
  | .i => t.i = s.i
  | .r => t.r = s.r
  | .iff1 => t.iff1 = s.iff1
  | .iff2 => t.iff2 = s.iff2
  | .im => t.im = s.im
  | .halted => t.halted = s.halted
  | .intInhibit => t.intInhibit = s.intInhibit
  | .diPending => t.diPending = s.diPending
  | .mem => t.mem = s.mem
  | .cfg => t.cfg = s.cfg
  | .intSource => t.intSource = s.intSource
  | .portIn => t.portIn = s.portIn
  | .events => t.events = s.events

/-- The eight bits of `F`. -/
def Place.flags : List Place := [.sf, .zf, .f5, .hf, .f3, .pv, .nf, .cf]

/-- The bits of `F` but `CF`. -/
def Place.flagsButCF : List Place := [.sf, .zf, .f5, .hf, .f3, .pv, .nf]

/-- What a port read uses up and logs. -/
def Place.io : List Place := [.portIn, .events]

/-- The place of an 8-bit register. -/
def regPlace : Reg8 → Place
  | .b => .b
  | .c => .c
  | .d => .d
  | .e => .e
  | .h => .h
  | .l => .l
  | .a => .a

/-- The places of a pair of table RP. -/
def pairPlaces : Pair → List Place
  | .bc => [.b, .c]
  | .de => [.d, .e]
  | .hl => [.h, .l]
  | .sp => [.sp]

/-- The places of a pair of table RP2. -/
def pairAFPlaces : PairAF → List Place
  | .bc => [.b, .c]
  | .de => [.d, .e]
  | .hl => [.h, .l]
  | .af => .a :: Place.flags

/-- What an instruction may change, `PC` and `draws` apart: its destinations, the registers its addressing mode or the
stack moves, and the flags that R131 gives it. -/
def touched : Instr → List Place
  | .ldRR t _ | .ldRN t _ | .ldRAtHL t | .ldRAtIXd t _ | .ldRAtIYd t _ | .ldRIXH t | .ldRIXL t | .ldRIYH t
  | .ldRIYL t => [regPlace t]
  | .ldAtHLR _ | .ldAtHLN _ | .ldAtIXdR _ _ | .ldAtIXdN _ _ | .ldAtIYdR _ _ | .ldAtIYdN _ _ | .ldAtNNA _
  | .ldAtNNHL _ | .ldAtNNRR _ _ | .ldAtNNIX _ | .ldAtNNIY _ | .resBAtHL _ | .setBAtHL _ | .resBAtIXd _ _
  | .setBAtIXd _ _ | .resBAtIYd _ _ | .setBAtIYd _ _ | .ldAtBCA | .ldAtDEA => [.mem]
  | .ldAAtNN _ | .ldAAtBC | .ldAAtDE | .mirrorA | .swapnib | .setae => [.a]
  | .ldIXHR _ | .ldIXHN _ | .ldIXLR _ | .ldIXLN _ | .ldIXNN _ | .ldIXAtNN _ | .ldIXHIXH | .ldIXHIXL | .ldIXLIXH
  | .ldIXLIXL | .incIX | .decIX => [.ix]
  | .ldIYHR _ | .ldIYHN _ | .ldIYLR _ | .ldIYLN _ | .ldIYNN _ | .ldIYAtNN _ | .ldIYHIYH | .ldIYHIYL | .ldIYLIYH
  | .ldIYLIYL | .incIY | .decIY => [.iy]
  | .ldRRNN q _ | .ldRRAtNN q _ | .incRR q | .decRR q => pairPlaces q
  | .ldHLAtNN _ | .addHLNN _ | .pixelad | .pixeldn => [.h, .l]
  | .pushRR _ | .pushNN _ | .callNN _ | .callCondNN _ _ | .rstN _ | .pushIX | .pushIY => [.sp, .mem]
  | .popRR q => .sp :: pairAFPlaces q
  | .addAR _ | .addAN _ | .addAAtIXd _ | .addAAtIYd _ | .adcAR _ | .adcAN _ | .adcAAtIXd _ | .adcAAtIYd _
  | .subR _ | .subN _ | .subAtIXd _ | .subAtIYd _ | .sbcAR _ | .sbcAN _ | .sbcAAtIXd _ | .sbcAAtIYd _ | .andR _
  | .andN _ | .andAtIXd _ | .andAtIYd _ | .xorR _ | .xorN _ | .xorAtIXd _ | .xorAtIYd _ | .orR _ | .orN _
  | .orAtIXd _ | .orAtIYd _ | .addAAtHL | .addAIXH | .addAIXL | .addAIYH | .addAIYL | .adcAAtHL | .adcAIXH
  | .adcAIXL | .adcAIYH | .adcAIYL | .subAtHL | .subIXH | .subIXL | .subIYH | .subIYL | .sbcAAtHL | .sbcAIXH
  | .sbcAIXL | .sbcAIYH | .sbcAIYL | .andAtHL | .andIXH | .andIXL | .andIYH | .andIYL | .xorAtHL | .xorIXH
  | .xorIXL | .xorIYH | .xorIYL | .orAtHL | .orIXH | .orIXL | .orIYH | .orIYL | .neg => .a :: Place.flags
  | .cpR _ | .cpN _ | .cpAtIXd _ | .cpAtIYd _ | .testN _ | .cpAtHL | .cpIXH | .cpIXL | .cpIYH | .cpIYL => Place.flags
  | .incR t | .decR t => regPlace t :: Place.flagsButCF
  | .incAtIXd _ | .incAtIYd _ | .decAtIXd _ | .decAtIYd _ | .incAtHL | .decAtHL => .mem :: Place.flagsButCF
  | .addHLRR _ => [.h, .l, .f5, .hf, .f3, .nf, .cf]
  | .addIXRR _ => [.ix, .f5, .hf, .f3, .nf, .cf]
  | .addIYRR _ => [.iy, .f5, .hf, .f3, .nf, .cf]
  | .adcHLRR _ | .sbcHLRR _ => .h :: .l :: Place.flags
  | .addDENN _ | .mulDE | .bslaDEB | .bsraDEB | .bsrlDEB | .bsrfDEB | .brlcDEB => [.d, .e]
  | .addBCNN _ => [.b, .c]
  | .rlcR r | .rrcR r | .rlR r | .rrR r | .slaR r | .sraR r | .sliR r | .srlR r => regPlace r :: Place.flags
  | .rlcAtIXd _ | .rlcAtIYd _ | .rrcAtIXd _ | .rrcAtIYd _ | .rlAtIXd _ | .rlAtIYd _ | .rrAtIXd _ | .rrAtIYd _
  | .slaAtIXd _ | .slaAtIYd _ | .sraAtIXd _ | .sraAtIYd _ | .sliAtIXd _ | .sliAtIYd _ | .srlAtIXd _
  | .srlAtIYd _ | .rlcAtHL | .rrcAtHL | .rlAtHL | .rrAtHL | .slaAtHL | .sraAtHL | .sliAtHL | .srlAtHL => .mem :: Place.flags
  | .rlcAtIXdR _ r | .rlcAtIYdR _ r | .rrcAtIXdR _ r | .rrcAtIYdR _ r | .rlAtIXdR _ r | .rlAtIYdR _ r
  | .rrAtIXdR _ r | .rrAtIYdR _ r | .slaAtIXdR _ r | .slaAtIYdR _ r | .sraAtIXdR _ r | .sraAtIYdR _ r
  | .sliAtIXdR _ r | .sliAtIYdR _ r | .srlAtIXdR _ r | .srlAtIYdR _ r => regPlace r :: .mem :: Place.flags
  | .bitBR _ _ | .bitBAtHL _ | .bitBAtIXd _ _ | .bitBAtIYd _ _ => [.sf, .zf, .f5, .hf, .f3, .pv, .nf]
  | .resBR _ r | .setBR _ r => [regPlace r]
  | .resBAtIXdR _ _ r | .setBAtIXdR _ _ r | .resBAtIYdR _ _ r | .setBAtIYdR _ _ r => [regPlace r, .mem]
  | .jpNN _ | .jpCondNN _ _ | .jrE _ | .jrCondE _ _ | .jpAtHL | .jpAtIX | .jpAtIY | .nop => []
  | .djnzE _ => [.b]
  | .retCond _ | .ldSPHL | .ldSPIX | .ldSPIY | .ret | .reti => [.sp]
  | .inAAtN _ => .a :: Place.io
  | .inRAtC t => regPlace t :: Place.io ++ Place.flagsButCF
  | .outAtNA _ | .outAtCR _ | .nextregNN _ _ | .nextregNA _ | .outAtCZero => [.events]
  | .ldAI | .ldARfsh => .a :: Place.flagsButCF
  | .ldIA => [.i]
  | .ldRfshA => [.r]
  | .popIX => [.sp, .ix]
  | .popIY => [.sp, .iy]
  | .exAFAFAlt => .a :: .a' :: .f' :: Place.flags
  | .exDEHL => [.d, .e, .h, .l]
  | .exAtSPHL => [.mem, .h, .l]
  | .exAtSPIX => [.mem, .ix]
  | .exAtSPIY => [.mem, .iy]
  | .exx => [.b, .c, .d, .e, .h, .l, .b', .c', .d', .e', .h', .l']
  | .incIXH | .incIXL | .decIXH | .decIXL => .ix :: Place.flagsButCF
  | .incIYH | .incIYL | .decIYH | .decIYL => .iy :: Place.flagsButCF
  | .daa => [.a, .sf, .zf, .f5, .hf, .f3, .pv, .cf]
  | .cpl => [.a, .f5, .hf, .f3, .nf]
  | .ccf | .scf => [.f5, .hf, .f3, .nf, .cf]
  | .addHLA => [.h, .l, .f5, .f3, .cf]
  | .addDEA => [.d, .e, .f5, .f3, .cf]
  | .addBCA => [.b, .c, .f5, .f3, .cf]
  | .rlca | .rla | .rrca | .rra => [.a, .f5, .hf, .f3, .nf, .cf]
  | .rld | .rrd => [.a, .mem] ++ Place.flagsButCF
  | .jpAtC => Place.io ++ Place.flags
  | .ldi | .ldir | .ldd | .lddr => [.mem, .b, .c, .d, .e, .h, .l, .f5, .hf, .f3, .pv, .nf]
  | .cpi | .cpir | .cpd | .cpdr => [.b, .c, .h, .l, .sf, .zf, .f5, .hf, .f3, .pv, .nf]
  | .ldix | .ldirx | .lddx | .lddrx => [.mem, .b, .c, .d, .e, .h, .l]
  | .ldpirx => [.mem, .b, .c, .d, .e]
  | .ldws => [.mem, .d, .l] ++ Place.flagsButCF
  | .inAtC => Place.io ++ Place.flagsButCF
  | .ini | .inir | .ind | .indr => [.mem, .b, .h, .l] ++ Place.io ++ Place.flags
  | .outi | .otir | .outd | .otdr => [.events, .b, .h, .l] ++ Place.flags
  | .outinb => [.events, .h, .l] ++ Place.flags
  | .halt => [.halted]
  | .di => [.iff1, .iff2, .diPending]
  | .ei => [.iff1, .iff2, .intInhibit]
  | .im0 | .im1 | .im2 => [.im]
  | .retn => [.sp, .iff1]

/-- The addresses an instruction may store to, computed from the state before it. -/
def stores (s : State) : Instr → List Word
  | .ldRR _ _ | .ldRN _ _ | .ldRAtHL _ | .ldRAtIXd _ _ | .ldRAtIYd _ _ | .ldAAtNN _ | .ldRIXH _ | .ldIXHR _
  | .ldIXHN _ | .ldRIXL _ | .ldIXLR _ | .ldIXLN _ | .ldRIYH _ | .ldIYHR _ | .ldIYHN _ | .ldRIYL _ | .ldIYLR _
  | .ldIYLN _ | .ldRRNN _ _ | .ldHLAtNN _ | .ldRRAtNN _ _ | .ldIXNN _ | .ldIXAtNN _ | .ldIYNN _ | .ldIYAtNN _
  | .popRR _ | .addAR _ | .addAN _ | .addAAtIXd _ | .addAAtIYd _ | .adcAR _ | .adcAN _ | .adcAAtIXd _
  | .adcAAtIYd _ | .subR _ | .subN _ | .subAtIXd _ | .subAtIYd _ | .sbcAR _ | .sbcAN _ | .sbcAAtIXd _
  | .sbcAAtIYd _ | .andR _ | .andN _ | .andAtIXd _ | .andAtIYd _ | .xorR _ | .xorN _ | .xorAtIXd _
  | .xorAtIYd _ | .orR _ | .orN _ | .orAtIXd _ | .orAtIYd _ | .cpR _ | .cpN _ | .cpAtIXd _ | .cpAtIYd _
  | .incR _ | .decR _ | .testN _ | .addHLRR _ | .addIXRR _ | .addIYRR _ | .adcHLRR _ | .sbcHLRR _ | .incRR _
  | .decRR _ | .addHLNN _ | .addDENN _ | .addBCNN _ | .rlcR _ | .rrcR _ | .rlR _ | .rrR _ | .slaR _ | .sraR _
  | .sliR _ | .srlR _ | .bitBR _ _ | .bitBAtHL _ | .resBR _ _ | .setBR _ _ | .bitBAtIXd _ _ | .bitBAtIYd _ _
  | .jpNN _ | .jpCondNN _ _ | .jrE _ | .jrCondE _ _ | .djnzE _ | .retCond _ | .inAAtN _ | .inRAtC _
  | .outAtNA _ | .outAtCR _ | .nextregNN _ _ | .nextregNA _ | .ldAAtBC | .ldAAtDE | .ldAI | .ldARfsh | .ldIA
  | .ldRfshA | .ldIXHIXH | .ldIXHIXL | .ldIXLIXH | .ldIXLIXL | .ldIYHIYH | .ldIYHIYL | .ldIYLIYH | .ldIYLIYL
  | .ldSPHL | .ldSPIX | .ldSPIY | .popIX | .popIY | .exAFAFAlt | .exDEHL | .exx | .addAAtHL | .addAIXH
  | .addAIXL | .addAIYH | .addAIYL | .adcAAtHL | .adcAIXH | .adcAIXL | .adcAIYH | .adcAIYL | .subAtHL | .subIXH
  | .subIXL | .subIYH | .subIYL | .sbcAAtHL | .sbcAIXH | .sbcAIXL | .sbcAIYH | .sbcAIYL | .andAtHL | .andIXH
  | .andIXL | .andIYH | .andIYL | .xorAtHL | .xorIXH | .xorIXL | .xorIYH | .xorIYL | .orAtHL | .orIXH | .orIXL
  | .orIYH | .orIYL | .cpAtHL | .cpIXH | .cpIXL | .cpIYH | .cpIYL | .incIXH | .incIXL | .incIYH | .incIYL
  | .decIXH | .decIXL | .decIYH | .decIYL | .daa | .cpl | .neg | .ccf | .scf | .incIX | .decIX | .incIY
  | .decIY | .addHLA | .addDEA | .addBCA | .mulDE | .rlca | .rla | .rrca | .rra | .bslaDEB | .bsraDEB
  | .bsrlDEB | .bsrfDEB | .brlcDEB | .mirrorA | .swapnib | .setae | .jpAtHL | .jpAtIX | .jpAtIY | .jpAtC | .ret
  | .cpi | .cpir | .cpd | .cpdr | .inAtC | .outAtCZero | .outi | .otir | .outd | .otdr | .outinb | .nop | .halt
  | .di | .ei | .im0 | .im1 | .im2 | .reti | .retn | .pixelad | .pixeldn => []
  | .ldAtHLR _ | .ldAtHLN _ | .resBAtHL _ | .setBAtHL _ | .incAtHL | .decAtHL | .rlcAtHL | .rrcAtHL | .rlAtHL
  | .rrAtHL | .slaAtHL | .sraAtHL | .sliAtHL | .srlAtHL | .rld | .rrd | .ini | .inir | .ind | .indr => [s.hl]
  | .ldAtIXdR d _ | .ldAtIXdN d _ | .incAtIXd d | .decAtIXd d | .rlcAtIXd d | .rlcAtIXdR d _ | .rrcAtIXd d
  | .rrcAtIXdR d _ | .rlAtIXd d | .rlAtIXdR d _ | .rrAtIXd d | .rrAtIXdR d _ | .slaAtIXd d | .slaAtIXdR d _
  | .sraAtIXd d | .sraAtIXdR d _ | .sliAtIXd d | .sliAtIXdR d _ | .srlAtIXd d | .srlAtIXdR d _ | .resBAtIXd _ d
  | .setBAtIXd _ d | .resBAtIXdR _ d _ | .setBAtIXdR _ d _ => [s.indexed .ix d]
  | .ldAtIYdR d _ | .ldAtIYdN d _ | .incAtIYd d | .decAtIYd d | .rlcAtIYd d | .rlcAtIYdR d _ | .rrcAtIYd d
  | .rrcAtIYdR d _ | .rlAtIYd d | .rlAtIYdR d _ | .rrAtIYd d | .rrAtIYdR d _ | .slaAtIYd d | .slaAtIYdR d _
  | .sraAtIYd d | .sraAtIYdR d _ | .sliAtIYd d | .sliAtIYdR d _ | .srlAtIYd d | .srlAtIYdR d _ | .resBAtIYd _ d
  | .setBAtIYd _ d | .resBAtIYdR _ d _ | .setBAtIYdR _ d _ => [s.indexed .iy d]
  | .ldAtNNA nn => [nn]
  | .ldAtNNHL nn | .ldAtNNRR _ nn | .ldAtNNIX nn | .ldAtNNIY nn => [nn, nn + 1]
  | .pushRR _ | .pushNN _ | .callNN _ | .callCondNN _ _ | .rstN _ | .pushIX | .pushIY => [s.sp - 1, s.sp - 2]
  | .ldAtBCA => [s.bc]
  | .ldAtDEA | .ldi | .ldir | .ldd | .lddr | .ldix | .ldirx | .lddx | .lddrx | .ldpirx | .ldws => [s.de]
  | .exAtSPHL | .exAtSPIX | .exAtSPIY => [s.sp, s.sp + 1]

/-- The instructions that may end elsewhere than at the instruction after them: the transfers of control
(44_control_transfer.md, RETI, RETN) and the repeating instructions (R758). -/
def transfers : Instr → Bool
  | .jpNN _ | .jpCondNN _ _ | .jrE _ | .jrCondE _ _ | .djnzE _ | .callNN _ | .callCondNN _ _ | .retCond _
  | .rstN _ | .jpAtHL | .jpAtIX | .jpAtIY | .jpAtC | .ret | .ldir | .lddr | .cpir | .cpdr | .ldirx | .lddrx
  | .ldpirx | .inir | .indr | .otir | .otdr | .reti | .retn => true
  | .ldRR _ _ | .ldRN _ _ | .ldRAtHL _ | .ldAtHLR _ | .ldAtHLN _ | .ldRAtIXd _ _ | .ldAtIXdR _ _
  | .ldAtIXdN _ _ | .ldRAtIYd _ _ | .ldAtIYdR _ _ | .ldAtIYdN _ _ | .ldAAtNN _ | .ldAtNNA _ | .ldRIXH _
  | .ldIXHR _ | .ldIXHN _ | .ldRIXL _ | .ldIXLR _ | .ldIXLN _ | .ldRIYH _ | .ldIYHR _ | .ldIYHN _ | .ldRIYL _
  | .ldIYLR _ | .ldIYLN _ | .ldRRNN _ _ | .ldHLAtNN _ | .ldAtNNHL _ | .ldRRAtNN _ _ | .ldAtNNRR _ _ | .ldIXNN _
  | .ldIXAtNN _ | .ldAtNNIX _ | .ldIYNN _ | .ldIYAtNN _ | .ldAtNNIY _ | .pushRR _ | .popRR _ | .pushNN _
  | .addAR _ | .addAN _ | .addAAtIXd _ | .addAAtIYd _ | .adcAR _ | .adcAN _ | .adcAAtIXd _ | .adcAAtIYd _
  | .subR _ | .subN _ | .subAtIXd _ | .subAtIYd _ | .sbcAR _ | .sbcAN _ | .sbcAAtIXd _ | .sbcAAtIYd _ | .andR _
  | .andN _ | .andAtIXd _ | .andAtIYd _ | .xorR _ | .xorN _ | .xorAtIXd _ | .xorAtIYd _ | .orR _ | .orN _
  | .orAtIXd _ | .orAtIYd _ | .cpR _ | .cpN _ | .cpAtIXd _ | .cpAtIYd _ | .incR _ | .incAtIXd _ | .incAtIYd _
  | .decR _ | .decAtIXd _ | .decAtIYd _ | .testN _ | .addHLRR _ | .addIXRR _ | .addIYRR _ | .adcHLRR _
  | .sbcHLRR _ | .incRR _ | .decRR _ | .addHLNN _ | .addDENN _ | .addBCNN _ | .rlcR _ | .rlcAtIXd _
  | .rlcAtIXdR _ _ | .rlcAtIYd _ | .rlcAtIYdR _ _ | .rrcR _ | .rrcAtIXd _ | .rrcAtIXdR _ _ | .rrcAtIYd _
  | .rrcAtIYdR _ _ | .rlR _ | .rlAtIXd _ | .rlAtIXdR _ _ | .rlAtIYd _ | .rlAtIYdR _ _ | .rrR _ | .rrAtIXd _
  | .rrAtIXdR _ _ | .rrAtIYd _ | .rrAtIYdR _ _ | .slaR _ | .slaAtIXd _ | .slaAtIXdR _ _ | .slaAtIYd _
  | .slaAtIYdR _ _ | .sraR _ | .sraAtIXd _ | .sraAtIXdR _ _ | .sraAtIYd _ | .sraAtIYdR _ _ | .sliR _
  | .sliAtIXd _ | .sliAtIXdR _ _ | .sliAtIYd _ | .sliAtIYdR _ _ | .srlR _ | .srlAtIXd _ | .srlAtIXdR _ _
  | .srlAtIYd _ | .srlAtIYdR _ _ | .bitBR _ _ | .bitBAtHL _ | .resBR _ _ | .resBAtHL _ | .setBR _ _
  | .setBAtHL _ | .bitBAtIXd _ _ | .resBAtIXd _ _ | .setBAtIXd _ _ | .resBAtIXdR _ _ _ | .setBAtIXdR _ _ _
  | .bitBAtIYd _ _ | .resBAtIYd _ _ | .setBAtIYd _ _ | .resBAtIYdR _ _ _ | .setBAtIYdR _ _ _ | .inAAtN _
  | .inRAtC _ | .outAtNA _ | .outAtCR _ | .nextregNN _ _ | .nextregNA _ | .ldAAtBC | .ldAAtDE | .ldAtBCA
  | .ldAtDEA | .ldAI | .ldARfsh | .ldIA | .ldRfshA | .ldIXHIXH | .ldIXHIXL | .ldIXLIXH | .ldIXLIXL | .ldIYHIYH
  | .ldIYHIYL | .ldIYLIYH | .ldIYLIYL | .ldSPHL | .ldSPIX | .ldSPIY | .pushIX | .popIX | .pushIY | .popIY
  | .exAFAFAlt | .exDEHL | .exAtSPHL | .exAtSPIX | .exAtSPIY | .exx | .addAAtHL | .addAIXH | .addAIXL
  | .addAIYH | .addAIYL | .adcAAtHL | .adcAIXH | .adcAIXL | .adcAIYH | .adcAIYL | .subAtHL | .subIXH | .subIXL
  | .subIYH | .subIYL | .sbcAAtHL | .sbcAIXH | .sbcAIXL | .sbcAIYH | .sbcAIYL | .andAtHL | .andIXH | .andIXL
  | .andIYH | .andIYL | .xorAtHL | .xorIXH | .xorIXL | .xorIYH | .xorIYL | .orAtHL | .orIXH | .orIXL | .orIYH
  | .orIYL | .cpAtHL | .cpIXH | .cpIXL | .cpIYH | .cpIYL | .incAtHL | .incIXH | .incIXL | .incIYH | .incIYL
  | .decAtHL | .decIXH | .decIXL | .decIYH | .decIYL | .daa | .cpl | .neg | .ccf | .scf | .incIX | .decIX
  | .incIY | .decIY | .addHLA | .addDEA | .addBCA | .mulDE | .rlca | .rla | .rrca | .rra | .rlcAtHL | .rrcAtHL
  | .rlAtHL | .rrAtHL | .slaAtHL | .sraAtHL | .sliAtHL | .srlAtHL | .rld | .rrd | .bslaDEB | .bsraDEB
  | .bsrlDEB | .bsrfDEB | .brlcDEB | .mirrorA | .swapnib | .setae | .ldi | .ldd | .cpi | .cpd | .ldix | .lddx
  | .ldws | .inAtC | .outAtCZero | .ini | .ind | .outi | .outd | .outinb | .nop | .halt | .di | .ei | .im0
  | .im1 | .im2 | .pixelad | .pixeldn => false

/-! ## How a result is said -/

/-- The instruction completes, and the state it leaves has `P`. -/
def Runs (i : Instr) (s : State) (P : State → Prop) : Prop := ∃ t, exec i s = .next t ∧ P t

/-- The six named flags of `t`. -/
def FlagsAre (t : State) (sf zf hf pv nf cf : Bool) : Prop :=
  t.f.named = { sf := sf, zf := zf, hf := hf, pv := pv, nf := nf, cf := cf }

/-- The flags of `t` after `ADD rr,A` on `s` (R558, D19): only `CF` of the named ones may differ, and under
`addAKeepsUnnamed` no other bit of `F` either (log 17). -/
def CarryFree (s t : State) : Prop :=
  t.f.named = { s.f.named with cf := t.f.cf } ∧
  (s.cfg.addAKeepsUnnamed = true → t.f = { s.f with cf := t.f.cf })

/-- How many bits of a byte are 1. -/
def ones (v : Byte) : Nat := (List.range 8).countP fun k => v.getLsbD k

/-- `v` has landed at address `x`, if a write reaches it (R210), and every other byte is as before. -/
def Landed (s t : State) (x : Word) (v : Byte) : Prop :=
  ∀ y, t.read y = if y = x ∧ writable s.cfg x = true then v else s.read y

/-- The word `v` has landed at `x`, its low byte lower (R203), if writes reach the two bytes, and every other byte is
as before. -/
def LandedWord (s t : State) (x v : Word) : Prop :=
  ∀ y, t.read y =
    if y = x ∧ writable s.cfg x = true then lo v
    else if y = x + 1 ∧ writable s.cfg (x + 1) = true then hi v else s.read y

/-- `v` has been pushed: `SP` is 2 less and `v` has landed where it points (R230). -/
def Pushed (s t : State) (v : Word) : Prop := t.sp = s.sp - 2 ∧ LandedWord s t (s.sp - 2) v

/-- `HL`, `DE` and `BC` have moved by these amounts. -/
def Moved (s t : State) (hl de bc : Word) : Prop := t.hl = s.hl + hl ∧ t.de = s.de + de ∧ t.bc = s.bc + bc

/-- `k` executions of the same instruction. -/
def again (i : Instr) : Nat → State → Result
  | 0, s => .next s
  | k + 1, s =>
    match exec i s with
    | .next t => again i k t
    | .fault r => .fault r
    | .refused r => .refused r

/-- The two decimal digits of a number below 100, one in each nibble. -/
def bcd (x : Nat) : Byte := BitVec.ofNat 8 (16 * (x / 10) + x % 10)

/-- The byte lies in one of the ranges, both ends included. -/
def inRanges (b : Byte) (rs : List (Nat × Nat)) : Bool :=
  rs.any fun r => decide (r.1 ≤ b.toNat) && decide (b.toNat ≤ r.2)

/-- The second bytes that R307 reserves after `ED`. -/
def edReserved : List (Nat × Nat) :=
  [(0x00, 0x22), (0x25, 0x26), (0x2D, 0x2F), (0x37, 0x3F), (0x4C, 0x4C), (0x4E, 0x4E), (0x54, 0x55),
   (0x5C, 0x5D), (0x63, 0x66), (0x6B, 0x6E), (0x74, 0x77), (0x7C, 0x89), (0x8B, 0x8F), (0x96, 0x97),
   (0x99, 0x9F), (0xA6, 0xA7), (0xAD, 0xAF), (0xB5, 0xB6), (0xBD, 0xFF)]

/-- The second bytes that R308 reserves after `DD` and `FD`. -/
def xyReserved : List (Nat × Nat) :=
  [(0x00, 0x08), (0x0A, 0x18), (0x1A, 0x20), (0x27, 0x28), (0x2F, 0x33), (0x37, 0x38), (0x3A, 0x43),
   (0x47, 0x4B), (0x4F, 0x53), (0x57, 0x5B), (0x5F, 0x5F), (0x76, 0x76), (0x78, 0x7B), (0x7F, 0x83),
   (0x87, 0x8B), (0x8F, 0x93), (0x97, 0x9B), (0x9F, 0xA3), (0xA7, 0xAB), (0xAF, 0xB3), (0xB7, 0xBB),
   (0xBF, 0xCA), (0xCC, 0xE0), (0xE2, 0xE2), (0xE4, 0xE4), (0xE6, 0xE8), (0xEA, 0xF8), (0xFA, 0xFF)]

/-- The sequences that the tables of R307, R308 and R309 reserve (R313). -/
def reservedBytes (b0 b1 b3 : Byte) : Bool :=
  (b0 == 0xED && inRanges b1 edReserved)
    || ((b0 == 0xDD || b0 == 0xFD)
        && (inRanges b1 xyReserved || (b1 == 0xCB && inRanges b3 [(0x40, 0x7F)] && b3.toNat % 8 != 6)))

/-- Nothing is accepted at this boundary and the CPU is not halted: the step fetches (R902). -/
def Fetches (s : State) : Prop :=
  s.asserted.reset = false ∧ s.asserted.nmi = false ∧ (s.asserted.int && s.iff1 && !s.intInhibit) = false ∧
    s.halted = false

/-- `A <- A + v + cin` with the flags of R121, `PV` said as the range of the signed sum. -/
def Adds (i : Instr) (s : State) (v : Byte) (cin : Bool) : Prop :=
  Runs i s fun t =>
    t.a.toNat = (s.a.toNat + v.toNat + cin.toNat) % 256 ∧
    FlagsAre t t.a.msb (decide (t.a = 0)) (decide (s.a.toNat % 16 + v.toNat % 16 + cin.toNat > 15))
      (decide (s.a.toInt + v.toInt + cin.toNat < -128 ∨ s.a.toInt + v.toInt + cin.toNat > 127)) false
      (decide (s.a.toNat + v.toNat + cin.toNat > 255))

/-- The flags of `A - v - cin` (R122), `PV` said as the range of the signed difference, and `A` after it: the
difference, or for CP (`keep`) the old value. -/
def Subtracts (i : Instr) (s : State) (v : Byte) (cin keep : Bool) : Prop :=
  Runs i s fun t => ∃ res : Byte,
    (res.toNat : Int) = ((s.a.toNat : Int) - v.toNat - cin.toNat) % 256 ∧ t.a = (if keep then s.a else res) ∧
    FlagsAre t res.msb (decide (res = 0)) (decide (s.a.toNat % 16 < v.toNat % 16 + cin.toNat))
      (decide (s.a.toInt - v.toInt - cin.toNat < -128 ∨ s.a.toInt - v.toInt - cin.toNat > 127)) true
      (decide (s.a.toNat < v.toNat + cin.toNat))

/-- The flags of `LOGIC(res, h)` (R123). -/
def LogicFlags (t : State) (res : Byte) (h : Bool) : Prop :=
  FlagsAre t res.msb (decide (res = 0)) h (decide (ones res % 2 = 0)) false false

/-- `INC8` on the operand value `v` (R124), the result where `after` says. -/
def Increments (i : Instr) (s : State) (v : Byte) (after : State → Byte → Prop) : Prop :=
  Runs i s fun t => ∃ res : Byte,
    res.toNat = (v.toNat + 1) % 256 ∧ after t res ∧
    FlagsAre t res.msb (decide (res = 0)) (decide (v &&& 0x0F = 0x0F)) (decide (v = 0x7F)) false s.f.cf

/-- `DEC8` on the operand value `v` (R124), the result where `after` says. -/
def Decrements (i : Instr) (s : State) (v : Byte) (after : State → Byte → Prop) : Prop :=
  Runs i s fun t => ∃ res : Byte,
    res.toNat = (v.toNat + 255) % 256 ∧ after t res ∧
    FlagsAre t res.msb (decide (res = 0)) (decide (v &&& 0x0F = 0x00)) (decide (v = 0x80)) true s.f.cf

/-- A rotate or shift: the result where `after` says, and the flags of R604. -/
def Shifts (i : Instr) (s : State) (res : Nat) (cout : Bool) (after : State → Byte → Prop) : Prop :=
  Runs i s fun t => ∃ out : Byte,
    out.toNat = res ∧ after t out ∧
    FlagsAre t out.msb (decide (out = 0)) false (decide (ones out % 2 = 0)) false cout

/-- The six operand forms of a rotate or shift (R604, R613), given its result and carry as functions of the operand. -/
def ShiftForms (s : State) (onR : Reg8 → Instr) (onHL : Instr) (onIX onIY : Byte → Instr)
    (copyIX copyIY : Byte → Reg8 → Instr) (res : Nat → Nat) (cout : Nat → Bool) : Prop :=
  (∀ r, Shifts (onR r) s (res (s.get r).toNat) (cout (s.get r).toNat) fun t v => t.get r = v) ∧
  (Shifts onHL s (res (s.read s.hl).toNat) (cout (s.read s.hl).toNat) fun t v => Landed s t s.hl v) ∧
  (∀ d, let x := s.ix + sext16 d
    Shifts (onIX d) s (res (s.read x).toNat) (cout (s.read x).toNat) fun t v => Landed s t x v) ∧
  (∀ d, let x := s.iy + sext16 d
    Shifts (onIY d) s (res (s.read x).toNat) (cout (s.read x).toNat) fun t v => Landed s t x v) ∧
  (∀ d r, let x := s.ix + sext16 d
    Shifts (copyIX d r) s (res (s.read x).toNat) (cout (s.read x).toNat) fun t v =>
      Landed s t x v ∧ t.get r = v) ∧
  (∀ d r, let x := s.iy + sext16 d
    Shifts (copyIY d r) s (res (s.read x).toNat) (cout (s.read x).toNat) fun t v =>
      Landed s t x v ∧ t.get r = v)

/-- The forms of BIT, SET and RES on memory, by address. -/
def OnBytes (s : State) (onHL : Instr) (onIX onIY : Byte → Instr) (claim : Instr → Word → Prop) : Prop :=
  claim onHL s.hl ∧ (∀ d, claim (onIX d) (s.ix + sext16 d)) ∧ ∀ d, claim (onIY d) (s.iy + sext16 d)

/-- A 16-bit sum with the flags of ADD (R125): `SF`, `ZF`, `PV` as they stood. -/
def Sums (i : Instr) (s : State) (x y : Word) (after : State → Word) : Prop :=
  Runs i s fun t =>
    (after t).toNat = (x.toNat + y.toNat) % 65536 ∧
    FlagsAre t s.f.sf s.f.zf (decide (x.toNat % 4096 + y.toNat % 4096 > 4095)) s.f.pv false
      (decide (x.toNat + y.toNat > 65535))

/-- What accepting a maskable interrupt does in every mode (R903): `PC` is pushed, the interrupt bits are cleared, and
apart from `SP`, memory and `PC` nothing else changes. -/
def Acknowledges (s t : State) : Prop :=
  Pushed s t s.pc ∧
  t = { s with halted := false, iff1 := false, iff2 := false, diPending := false, intInhibit := false
               intSource := s.intSource.tail, sp := t.sp, mem := t.mem, pc := t.pc }

end Sys2Proof.Machine
end

