-- ==== Sys2Proof/Certificates/Slice0/Obligations.lean ====
section
/-! DEFINITION. The statements for the provers. A value that the spec leaves free is in none of them; where one rests on a
choice of the model, its text names the log entry. -/

open Sys2Proof Sys2Proof.Machine

/-- After reset: PC 0, I 0, R 0, interrupts off, mode 0, nothing pending (R114, R950). State.reset has PC =
0000, I = 00, R = 00, IFF1 = IFF2 = 0, IM = 0, halted = int_inhibit = di_pending = 0. Of the registers the spec
leaves unspecified nothing is said here (their zeros are the model's choice, log 2). -/
def Obligations.ResetValues : Prop :=
  State.reset.pc = 0x0000 ∧ State.reset.i = 0x00 ∧ State.reset.r = 0x00 ∧ State.reset.iff1 = false ∧
  State.reset.iff2 = false ∧ State.reset.im = .im0 ∧ State.reset.halted = false ∧
  State.reset.intInhibit = false ∧ State.reset.diPending = false

/-- Reset asserted at a boundary is taken before anything else (R950, R907, R902). Where reset is asserted,
whatever else is, the step answers a next state with PC = 0, I = R = 0, the interrupt bits clear, mode 0 and not
halted. The other registers are free values; that memory and parameters stay is the model's choice (log 13) and
not said here. That taking the reset is a whole step of its own is log 7 (DEDUCED). -/
def Obligations.ResetTaken : Prop :=
  ∀ s : State, s.asserted.reset = true →
    ∃ t, step s = .next t ∧ t.pc = 0x0000 ∧ t.i = 0x00 ∧ t.r = 0x00 ∧ t.iff1 = false ∧ t.iff2 = false ∧
      t.im = .im0 ∧ t.halted = false ∧ t.intInhibit = false ∧ t.diPending = false

/-- Where nothing is accepted, a step runs the instruction at PC (R902, R223, R852, R853). Where no reset, no
NMI and no acceptable INT is asserted, the CPU is not halted and the bytes at PC decode to i, the step is exec
of i on the state with this boundary used up and int_inhibit and di_pending cleared; if a DI was pending before
it, the flip-flops are cleared at its end. That the two bits are cleared before the instruction executes is log
11's reading; the boundary used up is log 6's list. -/
def Obligations.StepRunsDecoded : Prop :=
  ∀ (s : State) (i : Instr), Fetches s → decode s.fetch = .instr i →
    let u := { s with intSource := s.intSource.tail, intInhibit := false, diPending := false }
    step s = finishing s.diPending (exec i u) ∧
    ∀ t, exec i u = .next t →
      step s = .next { t with iff1 := t.iff1 && !s.diPending, iff2 := t.iff2 && !s.diPending }

/-- A word of each format decodes to the instruction it stands for (R305, R306, R307, R308, R309). Words written
out from the tables of R305 to R309, one or more of each format, with operand bytes in their order (PUSH nn has
its high byte first). -/
def Obligations.DecodeWords : Prop :=
  decode [0x00] = .instr .nop ∧ decode [0x01, 0x99, 0x09] = .instr (.ldRRNN .bc 0x0999) ∧
  decode [0xCA, 0x00, 0x80] = .instr (.jpCondNN .z 0x8000) ∧ decode [0x20, 0xFB] = .instr (.jrCondE .nz 0xFB) ∧
  decode [0xE6, 0x0F] = .instr (.andN 0x0F) ∧ decode [0xD7] = .instr (.rstN 2) ∧
  decode [0xCB, 0xFE] = .instr (.setBAtHL 7) ∧ decode [0xCB, 0x11] = .instr (.rlR .c) ∧
  decode [0xED, 0x8A, 0x12, 0x34] = .instr (.pushNN 0x1234) ∧
  decode [0xED, 0x73, 0x00, 0x90] = .instr (.ldAtNNRR .sp 0x9000) ∧
  decode [0xED, 0x91, 0x07, 0x03] = .instr (.nextregNN 0x07 0x03) ∧ decode [0xED, 0xB0] = .instr .ldir ∧
  decode [0xDD, 0x36, 0x05, 0x01] = .instr (.ldAtIXdN 0x05 0x01) ∧ decode [0xFD, 0x7D] = .instr (.ldRIYL .a) ∧
  decode [0xDD, 0xCB, 0x01, 0x00] = .instr (.rlcAtIXdR 0x01 .b) ∧
  decode [0xFD, 0xCB, 0x00, 0xC1] = .instr (.setBAtIYdR 0 0x00 .c)

/-- Decoding the encoding of any well-formed instruction gives it back, whatever follows (R300, R305, R306,
R307, R308, R309). For every well-formed instruction, with every operand at every value the encoding admits, and
for all bytes that follow it, decode of its encoding followed by those bytes is the instruction. -/
def Obligations.DecodeEncode : Prop :=
  ∀ (i : Instr) (rest : List Byte), WellFormed i = true → decode (encode i ++ rest) = .instr i

/-- Whatever decodes is well-formed, and the bytes read are its encoding (R312, R313). If a list of bytes
decodes to an instruction, the instruction is well-formed and the list begins with its encoding: no two
different byte sequences of the same instruction exist and no bit is ignored. -/
def Obligations.DecodeSound : Prop :=
  ∀ (bytes : List Byte) (i : Instr), decode bytes = .instr i →
    WellFormed i = true ∧ encode i <+: bytes

/-- The decoder rejects the reserved sequences and no others, and a step refuses them (R305, R306, R307, R308,
R309, R313, R900). Of four bytes, the decoder rejects exactly those that R307 (after ED), R308 (after DD, FD)
and R309 (fourth byte after DD CB d, FD CB d) reserve; every other sequence is an instruction. Where an
instruction would be fetched and the bytes at PC are rejected, the step is the refusal that says so. -/
def Obligations.ReservedExactly : Prop :=
  (∀ b0 b1 b2 b3 : Byte, (∃ e, decode [b0, b1, b2, b3] = .rejected e) ↔ reservedBytes b0 b1 b3 = true) ∧
  ∀ (s : State) (e : DecodeError), Fetches s → decode s.fetch = .rejected e →
    step s = .refused (.reservedEncoding e)

/-- Every step keeps the invariant (R200, R109, R112, R852, R853, R856, R903, R908). From every state with the
invariant, a step that answers a next state answers one with it: memory in canonical form, IFF1 = 1 only with
IFF2 = 1, no pending EI or DI while halted, di_pending only under di_delay = 1, never both pending. The
canonical form is the model's (log 1), and so is that memory and parameters stay over a step that takes a reset
(log 13). -/
def Obligations.InvariantKept : Prop :=
  ∀ s t : State, s.Inv → step s = .next t → t.Inv

/-- The invariant holds after reset (R114). State.reset has the invariant. -/
def Obligations.InvariantAtReset : Prop :=
  State.reset.Inv

/-- The model's environment fields over a step: parameters kept, events appended to, one boundary used up (R6,
R8, R221, R901). Over every step that answers a next state the parameters are unchanged, the events so far stay
and new ones come after them, one entry of IntSource is used up, and draws are never taken back. The form of
these fields is the model's choice, not the spec's: IntSource as a list of which each step uses one entry (logs
6 and 7), MemMap.writable, di_delay, out_block_port_b and the two readings of log 17 as fields that no step
changes (logs 8, 9, 10, 17), the list of events (log 12), the counter of draws (log 4). The statement covers a
step that takes a reset; that the parameters and the events stay over it is log 13 (DEDUCED, unsafe for the
memory map across a reset), which no rule states. -/
def Obligations.EnvironmentKept : Prop :=
  ∀ s t : State, step s = .next t →
    t.cfg = s.cfg ∧ s.events <+: t.events ∧ t.intSource = s.intSource.tail ∧ s.draws ≤ t.draws

/-- An instruction changes no register, flag, hidden bit or log but those the spec gives it (R131, R100, R102,
R104, R110, R128). For every instruction and state, every place (each register, each bit of F, the shadow set,
I, R, IFF1, IFF2, IM, halted, int_inhibit, di_pending, memory, the parameters, the event log) that is not in the
list of what this instruction may touch is the same after it. PC may change. The list is R131's for the six
named flags and the instruction rules' for the rest; for bits 5 and 3 of F, which R131 has no column for, it is
R102 and R128: whatever writes a flag may change them, ADD HL,A, ADD DE,A and ADD BC,A too (log 17;
PairArithmetic states the reading of R558 that keeps them). Three points are the model's: no instruction but LD
R,A changes R (log 18); the Next instructions of U19 change no flag (log 19); and the fields for parameters,
port answers and events have the model's form (logs 5, 6, 8, 9, 10, 12, 17). -/
def Obligations.RegisterFrame : Prop :=
  ∀ (i : Instr) (s t : State) (p : Place), exec i s = .next t → p ∉ touched i → p.same s t

/-- Every byte outside the bytes an instruction stores to reads as before (R212, R205, R206, R207). For every
instruction, state and address: unless the address is among those computed for this instruction's store from the
state before it, reading it after gives what reading it before gave. For an instruction that stores nothing the
list is empty. -/
def Obligations.MemoryFrame : Prop :=
  ∀ (i : Instr) (s t : State) (x : Word), exec i s = .next t → x ∉ stores s i → t.read x = s.read x

/-- Every instruction completes in every state, at the next instruction unless it transfers control (R900, R106,
R915). For every instruction and state exec answers a next state; for an instruction that is no transfer of
control and does not repeat, PC is then the address after its last byte, mod 2^16. -/
def Obligations.EveryInstructionCompletes : Prop :=
  ∀ (i : Instr) (s : State),
    Runs i s fun t => transfers i = false → t.pc = s.pc + BitVec.ofNat 16 (encode i).length

/-- Parity is 1 for an even number of 1 bits (R120). parity(v) is 1 exactly where v has an even number of 1
bits. -/
def Obligations.ParityCountsOnes : Prop :=
  ∀ v : Byte, (parity v = true → ones v % 2 = 0) ∧ (parity v = false → ones v % 2 = 1)

/-- Each condition tests its one flag, by its code (R700). C, NC, Z, NZ, M, P, PE, PO are CF, ZF, SF, PV set or
reset; the codes 0 to 7 of ccc and 0 to 3 of cc are theirs; JR takes the first four only. -/
def Obligations.ConditionsReadFlags : Prop :=
  (∀ s : State,
    s.cond .c = s.f.cf ∧ s.cond .nc = !s.f.cf ∧ s.cond .z = s.f.zf ∧ s.cond .nz = !s.f.zf ∧
    s.cond .m = s.f.sf ∧ s.cond .p = !s.f.sf ∧ s.cond .pe = s.f.pv ∧ s.cond .po = !s.f.pv) ∧
  (∀ (k : Nat) (cc : Cond) (l h : Byte), (k, cc) ∈ [(0, Cond.nz), (1, .z), (2, .nc), (3, .c), (4, .po), (5, .pe), (6, .p), (7, .m)] →
    decode [BitVec.ofNat 8 (0xC2 + 8 * k), l, h] = .instr (.jpCondNN cc (join h l)) ∧
    decode [BitVec.ofNat 8 (0xC4 + 8 * k), l, h] = .instr (.callCondNN cc (join h l)) ∧
    decode [BitVec.ofNat 8 (0xC0 + 8 * k)] = .instr (.retCond cc)) ∧
  (∀ e : Byte, decode [0x20, e] = .instr (.jrCondE .nz e) ∧ decode [0x28, e] = .instr (.jrCondE .z e) ∧
    decode [0x30, e] = .instr (.jrCondE .nc e) ∧ decode [0x38, e] = .instr (.jrCondE .c e)) ∧
  ∀ (cc : Cond) (e : Byte), WellFormed (.jrCondE cc e) = true ↔ cc ∈ [Cond.c, .nc, .z, .nz]

/-- The bits of F, in PUSH AF's byte and back (R102, R101). As a byte F has SF in bit 7, ZF in 6, HF in 4, PV in
2, NF in 1, CF in 0, and the two unnamed bits in 5 and 3; a byte loaded into F reads back unchanged, all eight
bits. -/
def Obligations.FlagPositions : Prop :=
  (∀ f : Flags,
    f.toByte.getLsbD 7 = f.sf ∧ f.toByte.getLsbD 6 = f.zf ∧ f.toByte.getLsbD 5 = f.f5 ∧
    f.toByte.getLsbD 4 = f.hf ∧ f.toByte.getLsbD 3 = f.f3 ∧ f.toByte.getLsbD 2 = f.pv ∧
    f.toByte.getLsbD 1 = f.nf ∧ f.toByte.getLsbD 0 = f.cf) ∧
  ∀ v : Byte, (Flags.ofByte v).toByte = v

/-- LD into an 8-bit register gives it the source and leaves the other registers (R401, R402, R403, R404, R409,
R410). LD r,r'; LD r,n; LD r,(HL); LD r,(IX+d); LD r,(IY+d); LD A,(BC); LD A,(DE); LD A,(nn): the register holds
the value the source had before, also where it helps to address the source; no other of the seven registers
changes. -/
def Obligations.LoadByte : Prop :=
  ∀ s : State,
    let loads := fun (i : Instr) (k : Reg8) (v : Byte) =>
      Runs i s fun t => ∀ j, t.get j = if j = k then v else s.get j
    (∀ k r, loads (.ldRR k r) k (s.get r)) ∧ (∀ k n, loads (.ldRN k n) k n) ∧
    (∀ k, loads (.ldRAtHL k) k (s.read s.hl)) ∧
    (∀ k d, loads (.ldRAtIXd k d) k (s.read (s.ix + sext16 d))) ∧
    (∀ k d, loads (.ldRAtIYd k d) k (s.read (s.iy + sext16 d))) ∧
    loads .ldAAtBC .a (s.read s.bc) ∧ loads .ldAAtDE .a (s.read s.de) ∧
    ∀ nn, loads (.ldAAtNN nn) .a (s.read nn)

/-- LD to memory stores the byte at its address and nowhere else (R405, R406, R407, R408, R411, R412, R207,
R210). LD (HL),r; LD (HL),n; LD (IX+d),r; LD (IX+d),n and the IY forms; LD (BC),A; LD (DE),A; LD (nn),A: the
byte is at the address if the map lets a write reach it, and every other byte is as before. Premise: the memory
has its canonical form (an invariant, InvariantKept). -/
def Obligations.StoreByte : Prop :=
  ∀ s : State, s.mem.wf = true →
    let puts := fun (i : Instr) (x : Word) (v : Byte) => Runs i s fun t => Landed s t x v
    (∀ r, puts (.ldAtHLR r) s.hl (s.get r)) ∧ (∀ n, puts (.ldAtHLN n) s.hl n) ∧
    (∀ d r, puts (.ldAtIXdR d r) (s.ix + sext16 d) (s.get r)) ∧
    (∀ d r, puts (.ldAtIYdR d r) (s.iy + sext16 d) (s.get r)) ∧
    (∀ d n, puts (.ldAtIXdN d n) (s.ix + sext16 d) n) ∧ (∀ d n, puts (.ldAtIYdN d n) (s.iy + sext16 d) n) ∧
    puts .ldAtBCA s.bc s.a ∧ puts .ldAtDEA s.de s.a ∧ ∀ nn, puts (.ldAtNNA nn) nn s.a

/-- A load into an index half leaves the other half, a load from one copies it (R417, R103). All twenty forms of
R417: from a half to a register, and from a register, an immediate or a half of the same index register to a
half, the other half unchanged. -/
def Obligations.LoadIndexHalf : Prop :=
  ∀ s : State,
    (∀ k, Runs (.ldRIXH k) s fun t => t.get k = hi s.ix) ∧
    (∀ r, Runs (.ldIXHR r) s fun t => t.ix = join (s.get r) (lo s.ix)) ∧
    (∀ n, Runs (.ldIXHN n) s fun t => t.ix = join n (lo s.ix)) ∧
    (Runs .ldIXHIXH s fun t => t.ix = join (hi s.ix) (lo s.ix)) ∧
    (Runs .ldIXHIXL s fun t => t.ix = join (lo s.ix) (lo s.ix)) ∧
    (∀ k, Runs (.ldRIXL k) s fun t => t.get k = lo s.ix) ∧
    (∀ r, Runs (.ldIXLR r) s fun t => t.ix = join (hi s.ix) (s.get r)) ∧
    (∀ n, Runs (.ldIXLN n) s fun t => t.ix = join (hi s.ix) n) ∧
    (Runs .ldIXLIXH s fun t => t.ix = join (hi s.ix) (hi s.ix)) ∧
    (Runs .ldIXLIXL s fun t => t.ix = join (hi s.ix) (lo s.ix)) ∧
    (∀ k, Runs (.ldRIYH k) s fun t => t.get k = hi s.iy) ∧
    (∀ r, Runs (.ldIYHR r) s fun t => t.iy = join (s.get r) (lo s.iy)) ∧
    (∀ n, Runs (.ldIYHN n) s fun t => t.iy = join n (lo s.iy)) ∧
    (Runs .ldIYHIYH s fun t => t.iy = join (hi s.iy) (lo s.iy)) ∧
    (Runs .ldIYHIYL s fun t => t.iy = join (lo s.iy) (lo s.iy)) ∧
    (∀ k, Runs (.ldRIYL k) s fun t => t.get k = lo s.iy) ∧
    (∀ r, Runs (.ldIYLR r) s fun t => t.iy = join (hi s.iy) (s.get r)) ∧
    (∀ n, Runs (.ldIYLN n) s fun t => t.iy = join (hi s.iy) n) ∧
    (Runs .ldIYLIYH s fun t => t.iy = join (hi s.iy) (hi s.iy)) ∧
    (Runs .ldIYLIYL s fun t => t.iy = join (hi s.iy) (lo s.iy))

/-- LD A,I; LD A,R; LD I,A; LD R,A (R413, R414, R415, R416). LD A,I copies I with SF, ZF of it, HF = NF = 0, PV
= IFF2, CF kept; LD A,R does the same for some byte (the value read is a free value); LD I,A and LD R,A copy A
and leave F. -/
def Obligations.LoadSpecial : Prop :=
  ∀ s : State,
    (Runs .ldAI s fun t => t.a = s.i ∧ FlagsAre t s.i.msb (decide (s.i = 0)) false s.iff2 false s.f.cf) ∧
    (Runs .ldARfsh s fun t => FlagsAre t t.a.msb (decide (t.a = 0)) false s.iff2 false s.f.cf) ∧
    (Runs .ldIA s fun t => t.i = s.a ∧ t.f = s.f) ∧ Runs .ldRfshA s fun t => t.r = s.a ∧ t.f = s.f

/-- 16-bit loads, low byte at the lower address (R418, R419, R420, R421, R422, R426, R427, R203). LD rr,nn; LD
IX,nn; LD IY,nn; LD HL,(nn); LD rr,(nn); LD IX,(nn); LD IY,(nn); LD SP,HL; LD SP,IX; LD SP,IY: the pair or
register holds the immediate, the word at nn and nn + 1 mod 2^16, or the register. -/
def Obligations.LoadWord : Prop :=
  ∀ s : State,
    (∀ q nn, Runs (.ldRRNN q nn) s fun t => t.pair q = nn) ∧
    (∀ nn, Runs (.ldIXNN nn) s fun t => t.ix = nn) ∧ (∀ nn, Runs (.ldIYNN nn) s fun t => t.iy = nn) ∧
    (∀ nn, Runs (.ldHLAtNN nn) s fun t => t.l = s.read nn ∧ t.h = s.read (nn + 1)) ∧
    (∀ q nn, Runs (.ldRRAtNN q nn) s fun t => t.pair q = join (s.read (nn + 1)) (s.read nn)) ∧
    (∀ nn, Runs (.ldIXAtNN nn) s fun t => t.ix = join (s.read (nn + 1)) (s.read nn)) ∧
    (∀ nn, Runs (.ldIYAtNN nn) s fun t => t.iy = join (s.read (nn + 1)) (s.read nn)) ∧
    (Runs .ldSPHL s fun t => t.sp = join s.h s.l) ∧ (Runs .ldSPIX s fun t => t.sp = s.ix) ∧
    Runs .ldSPIY s fun t => t.sp = s.iy

/-- LD (nn),rr stores the low byte at nn and the high byte at nn + 1 (R423, R424, R425, R203, R206). LD (nn),HL;
LD (nn),rr; LD (nn),IX; LD (nn),IY: the two bytes land at nn and nn + 1 mod 2^16 where writes reach, and no
other byte changes. Premise: canonical memory. -/
def Obligations.StoreWord : Prop :=
  ∀ s : State, s.mem.wf = true →
    (∀ nn, Runs (.ldAtNNHL nn) s fun t => LandedWord s t nn (join s.h s.l)) ∧
    (∀ q nn, Runs (.ldAtNNRR q nn) s fun t => LandedWord s t nn (s.pair q)) ∧
    (∀ nn, Runs (.ldAtNNIX nn) s fun t => LandedWord s t nn s.ix) ∧
    ∀ nn, Runs (.ldAtNNIY nn) s fun t => LandedWord s t nn s.iy

/-- PUSH leaves SP at the low byte of the word, POP takes it from there (R428, R429, R430, R431, R432, R230).
PUSH rr, PUSH IX, PUSH IY, PUSH nn: SP is 2 less, the low byte lands at it and the high byte above it, nothing
else in memory changes. POP rr, POP IX, POP IY: the word at SP, all eight bits of F for POP AF, and SP is 2
more. Premise: canonical memory. -/
def Obligations.PushPop : Prop :=
  ∀ s : State, s.mem.wf = true →
    (∀ q, Runs (.pushRR q) s fun t => Pushed s t (s.pairAF q)) ∧ (Runs .pushIX s fun t => Pushed s t s.ix) ∧
    (Runs .pushIY s fun t => Pushed s t s.iy) ∧ (∀ nn, Runs (.pushNN nn) s fun t => Pushed s t nn) ∧
    (∀ q, Runs (.popRR q) s fun t => t.sp = s.sp + 2 ∧ t.pairAF q = join (s.read (s.sp + 1)) (s.read s.sp)) ∧
    (Runs .popIX s fun t => t.sp = s.sp + 2 ∧ t.ix = join (s.read (s.sp + 1)) (s.read s.sp)) ∧
    Runs .popIY s fun t => t.sp = s.sp + 2 ∧ t.iy = join (s.read (s.sp + 1)) (s.read s.sp)

/-- A pair pushed and popped comes back, into any pair (R230, R428, R431). Where both bytes below SP are
writable, PUSH rr then POP rr' leaves SP as it was and the second pair with the first one's value, F exactly
included. -/
def Obligations.PushThenPop : Prop :=
  ∀ (s : State) (q k : PairAF), s.mem.wf = true → writable s.cfg (s.sp - 1) = true →
    writable s.cfg (s.sp - 2) = true →
    Runs (.pushRR q) s fun t => Runs (.popRR k) t fun u => u.sp = s.sp ∧ u.pairAF k = s.pairAF q

/-- EX AF,AF'; EX DE,HL; EXX swap, and twice restore (R433, R434, R437). Each of the three swaps exactly its
registers (F' goes to F exactly), and executed twice it restores them. -/
def Obligations.Exchanges : Prop :=
  ∀ s : State,
    exec .exAFAFAlt s = .next { s with a := s.a', f := s.f', a' := s.a, f' := s.f, pc := s.pc + 1 } ∧
    exec .exDEHL s = .next { s with d := s.h, e := s.l, h := s.d, l := s.e, pc := s.pc + 1 } ∧
    exec .exx s =
      .next
        { s with b := s.b', c := s.c', d := s.d', e := s.e', h := s.h', l := s.l'
                 b' := s.b, c' := s.c, d' := s.d, e' := s.e, h' := s.h, l' := s.l, pc := s.pc + 1 } ∧
    ∀ i ∈ [Instr.exAFAFAlt, .exDEHL, .exx], Runs i s fun t => exec i t = .next { s with pc := s.pc + 2 }

/-- EX (SP),rr swaps the register with the word SP points at (R435, R436, R203). EX (SP),HL, EX (SP),IX, EX
(SP),IY: the register takes the old word at SP, the register's old value lands there, SP stays. Premise:
canonical memory. -/
def Obligations.ExchangeStackTop : Prop :=
  ∀ s : State, s.mem.wf = true →
    (Runs .exAtSPHL s fun t =>
      t.l = s.read s.sp ∧ t.h = s.read (s.sp + 1) ∧ t.sp = s.sp ∧ LandedWord s t s.sp (join s.h s.l)) ∧
    (Runs .exAtSPIX s fun t =>
      t.ix = join (s.read (s.sp + 1)) (s.read s.sp) ∧ t.sp = s.sp ∧ LandedWord s t s.sp s.ix) ∧
    Runs .exAtSPIY s fun t =>
      t.iy = join (s.read (s.sp + 1)) (s.read s.sp) ∧ t.sp = s.sp ∧ LandedWord s t s.sp s.iy

/-- ADD A,s and ADC A,s: the sum and all six flags, for every operand form (R121, R500, R501, R502). In each of
the nine operand forms of ADD and of ADC, A is the sum mod 256 (with CF for ADC), SF and ZF are of the result,
HF is the carry from bit 3, PV says that the signed sum leaves -128..127, NF is 0, CF the carry from bit 7. -/
def Obligations.AddResults : Prop :=
  ∀ s : State,
    (∀ r, Adds (.addAR r) s (s.get r) false) ∧
    (∀ n, Adds (.addAN n) s n false) ∧
    Adds .addAAtHL s (s.read s.hl) false ∧
    (∀ d, Adds (.addAAtIXd d) s (s.read (s.ix + sext16 d)) false) ∧
    (∀ d, Adds (.addAAtIYd d) s (s.read (s.iy + sext16 d)) false) ∧
    Adds .addAIXH s (hi s.ix) false ∧
    Adds .addAIXL s (lo s.ix) false ∧
    Adds .addAIYH s (hi s.iy) false ∧
    Adds .addAIYL s (lo s.iy) false ∧
    (∀ r, Adds (.adcAR r) s (s.get r) s.f.cf) ∧
    (∀ n, Adds (.adcAN n) s n s.f.cf) ∧
    Adds .adcAAtHL s (s.read s.hl) s.f.cf ∧
    (∀ d, Adds (.adcAAtIXd d) s (s.read (s.ix + sext16 d)) s.f.cf) ∧
    (∀ d, Adds (.adcAAtIYd d) s (s.read (s.iy + sext16 d)) s.f.cf) ∧
    Adds .adcAIXH s (hi s.ix) s.f.cf ∧
    Adds .adcAIXL s (lo s.ix) s.f.cf ∧
    Adds .adcAIYH s (hi s.iy) s.f.cf ∧
    Adds .adcAIYL s (lo s.iy) s.f.cf

/-- SUB s, SBC A,s and CP s: the difference and all six flags, for every operand form (R122, R500, R503, R504,
R508). In each of the nine operand forms of SUB, SBC and CP: the difference mod 256 (with CF for SBC) goes to A,
for CP A is kept; SF and ZF are of the difference, HF is the borrow from bit 4, PV says that the signed
difference leaves -128..127, NF is 1, CF the borrow. -/
def Obligations.SubResults : Prop :=
  ∀ s : State,
    (∀ r, Subtracts (.subR r) s (s.get r) false false) ∧
    (∀ n, Subtracts (.subN n) s n false false) ∧
    Subtracts .subAtHL s (s.read s.hl) false false ∧
    (∀ d, Subtracts (.subAtIXd d) s (s.read (s.ix + sext16 d)) false false) ∧
    (∀ d, Subtracts (.subAtIYd d) s (s.read (s.iy + sext16 d)) false false) ∧
    Subtracts .subIXH s (hi s.ix) false false ∧
    Subtracts .subIXL s (lo s.ix) false false ∧
    Subtracts .subIYH s (hi s.iy) false false ∧
    Subtracts .subIYL s (lo s.iy) false false ∧
    (∀ r, Subtracts (.sbcAR r) s (s.get r) s.f.cf false) ∧
    (∀ n, Subtracts (.sbcAN n) s n s.f.cf false) ∧
    Subtracts .sbcAAtHL s (s.read s.hl) s.f.cf false ∧
    (∀ d, Subtracts (.sbcAAtIXd d) s (s.read (s.ix + sext16 d)) s.f.cf false) ∧
    (∀ d, Subtracts (.sbcAAtIYd d) s (s.read (s.iy + sext16 d)) s.f.cf false) ∧
    Subtracts .sbcAIXH s (hi s.ix) s.f.cf false ∧
    Subtracts .sbcAIXL s (lo s.ix) s.f.cf false ∧
    Subtracts .sbcAIYH s (hi s.iy) s.f.cf false ∧
    Subtracts .sbcAIYL s (lo s.iy) s.f.cf false ∧
    (∀ r, Subtracts (.cpR r) s (s.get r) false true) ∧
    (∀ n, Subtracts (.cpN n) s n false true) ∧
    Subtracts .cpAtHL s (s.read s.hl) false true ∧
    (∀ d, Subtracts (.cpAtIXd d) s (s.read (s.ix + sext16 d)) false true) ∧
    (∀ d, Subtracts (.cpAtIYd d) s (s.read (s.iy + sext16 d)) false true) ∧
    Subtracts .cpIXH s (hi s.ix) false true ∧
    Subtracts .cpIXL s (lo s.ix) false true ∧
    Subtracts .cpIYH s (hi s.iy) false true ∧
    Subtracts .cpIYL s (lo s.iy) false true

/-- AND, XOR, OR and TEST: the result and the flags of LOGIC, for every operand form (R123). In each of the nine
operand forms of AND, XOR and OR, A is the bitwise result; TEST n leaves A. SF and ZF are of the result, HF is 1
for AND and TEST and 0 for OR and XOR, PV is 1 for an even number of 1 bits, NF = CF = 0. -/
def Obligations.LogicResults : Prop :=
  ∀ s : State,
    (∀ r, Runs (.andR r) s fun t => t.a = s.a &&& s.get r ∧ LogicFlags t (s.a &&& s.get r) true) ∧
    (∀ n, Runs (.andN n) s fun t => t.a = s.a &&& n ∧ LogicFlags t (s.a &&& n) true) ∧
    (Runs .andAtHL s fun t => t.a = s.a &&& s.read s.hl ∧ LogicFlags t (s.a &&& s.read s.hl) true) ∧
    (∀ d, Runs (.andAtIXd d) s fun t => t.a = s.a &&& s.read (s.ix + sext16 d) ∧ LogicFlags t (s.a &&& s.read (s.ix + sext16 d)) true) ∧
    (∀ d, Runs (.andAtIYd d) s fun t => t.a = s.a &&& s.read (s.iy + sext16 d) ∧ LogicFlags t (s.a &&& s.read (s.iy + sext16 d)) true) ∧
    (Runs .andIXH s fun t => t.a = s.a &&& hi s.ix ∧ LogicFlags t (s.a &&& hi s.ix) true) ∧
    (Runs .andIXL s fun t => t.a = s.a &&& lo s.ix ∧ LogicFlags t (s.a &&& lo s.ix) true) ∧
    (Runs .andIYH s fun t => t.a = s.a &&& hi s.iy ∧ LogicFlags t (s.a &&& hi s.iy) true) ∧
    (Runs .andIYL s fun t => t.a = s.a &&& lo s.iy ∧ LogicFlags t (s.a &&& lo s.iy) true) ∧
    (∀ r, Runs (.xorR r) s fun t => t.a = s.a ^^^ s.get r ∧ LogicFlags t (s.a ^^^ s.get r) false) ∧
    (∀ n, Runs (.xorN n) s fun t => t.a = s.a ^^^ n ∧ LogicFlags t (s.a ^^^ n) false) ∧
    (Runs .xorAtHL s fun t => t.a = s.a ^^^ s.read s.hl ∧ LogicFlags t (s.a ^^^ s.read s.hl) false) ∧
    (∀ d, Runs (.xorAtIXd d) s fun t => t.a = s.a ^^^ s.read (s.ix + sext16 d) ∧ LogicFlags t (s.a ^^^ s.read (s.ix + sext16 d)) false) ∧
    (∀ d, Runs (.xorAtIYd d) s fun t => t.a = s.a ^^^ s.read (s.iy + sext16 d) ∧ LogicFlags t (s.a ^^^ s.read (s.iy + sext16 d)) false) ∧
    (Runs .xorIXH s fun t => t.a = s.a ^^^ hi s.ix ∧ LogicFlags t (s.a ^^^ hi s.ix) false) ∧
    (Runs .xorIXL s fun t => t.a = s.a ^^^ lo s.ix ∧ LogicFlags t (s.a ^^^ lo s.ix) false) ∧
    (Runs .xorIYH s fun t => t.a = s.a ^^^ hi s.iy ∧ LogicFlags t (s.a ^^^ hi s.iy) false) ∧
    (Runs .xorIYL s fun t => t.a = s.a ^^^ lo s.iy ∧ LogicFlags t (s.a ^^^ lo s.iy) false) ∧
    (∀ r, Runs (.orR r) s fun t => t.a = s.a ||| s.get r ∧ LogicFlags t (s.a ||| s.get r) false) ∧
    (∀ n, Runs (.orN n) s fun t => t.a = s.a ||| n ∧ LogicFlags t (s.a ||| n) false) ∧
    (Runs .orAtHL s fun t => t.a = s.a ||| s.read s.hl ∧ LogicFlags t (s.a ||| s.read s.hl) false) ∧
    (∀ d, Runs (.orAtIXd d) s fun t => t.a = s.a ||| s.read (s.ix + sext16 d) ∧ LogicFlags t (s.a ||| s.read (s.ix + sext16 d)) false) ∧
    (∀ d, Runs (.orAtIYd d) s fun t => t.a = s.a ||| s.read (s.iy + sext16 d) ∧ LogicFlags t (s.a ||| s.read (s.iy + sext16 d)) false) ∧
    (Runs .orIXH s fun t => t.a = s.a ||| hi s.ix ∧ LogicFlags t (s.a ||| hi s.ix) false) ∧
    (Runs .orIXL s fun t => t.a = s.a ||| lo s.ix ∧ LogicFlags t (s.a ||| lo s.ix) false) ∧
    (Runs .orIYH s fun t => t.a = s.a ||| hi s.iy ∧ LogicFlags t (s.a ||| hi s.iy) false) ∧
    (Runs .orIYL s fun t => t.a = s.a ||| lo s.iy ∧ LogicFlags t (s.a ||| lo s.iy) false) ∧
    ∀ n, Runs (.testN n) s fun t => t.a = s.a ∧ LogicFlags t (s.a &&& n) true

/-- INC s and DEC s on a byte: the result, the flags, CF kept, for every operand form (R124). In each operand
form (register, (HL), (IX+d), (IY+d), the four index halves) the operand goes up or down by 1 mod 256, SF and ZF
are of the result, HF says that the low nibble was F (INC) or 0 (DEC), PV that the value was 7F (INC) or 80
(DEC), NF is 0 or 1, CF is kept. Premise: canonical memory. -/
def Obligations.IncDecResults : Prop :=
  ∀ s : State, s.mem.wf = true →
    (∀ k, Increments (.incR k) s (s.get k) fun t v => t.get k = v) ∧
    (Increments .incAtHL s (s.read s.hl) fun t v => Landed s t s.hl v) ∧
    (∀ d, Increments (.incAtIXd d) s (s.read (s.ix + sext16 d)) fun t v => Landed s t (s.ix + sext16 d) v) ∧
    (Increments .incIXH s (hi s.ix) fun t v => t.ix = join v (lo s.ix)) ∧
    (Increments .incIXL s (lo s.ix) fun t v => t.ix = join (hi s.ix) v) ∧
    (∀ d, Increments (.incAtIYd d) s (s.read (s.iy + sext16 d)) fun t v => Landed s t (s.iy + sext16 d) v) ∧
    (Increments .incIYH s (hi s.iy) fun t v => t.iy = join v (lo s.iy)) ∧
    (Increments .incIYL s (lo s.iy) fun t v => t.iy = join (hi s.iy) v) ∧
    (∀ k, Decrements (.decR k) s (s.get k) fun t v => t.get k = v) ∧
    (Decrements .decAtHL s (s.read s.hl) fun t v => Landed s t s.hl v) ∧
    (∀ d, Decrements (.decAtIXd d) s (s.read (s.ix + sext16 d)) fun t v => Landed s t (s.ix + sext16 d) v) ∧
    (Decrements .decIXH s (hi s.ix) fun t v => t.ix = join v (lo s.ix)) ∧
    (Decrements .decIXL s (lo s.ix) fun t v => t.ix = join (hi s.ix) v) ∧
    (∀ d, Decrements (.decAtIYd d) s (s.read (s.iy + sext16 d)) fun t v => Landed s t (s.iy + sext16 d) v) ∧
    (Decrements .decIYH s (hi s.iy) fun t v => t.iy = join v (lo s.iy)) ∧
    (Decrements .decIYL s (lo s.iy) fun t v => t.iy = join (hi s.iy) v)

/-- DAA, CPL, NEG, CCF, SCF: results and the flags the spec fixes (R511, R512, R513, R514, R515). DAA by the
algorithm of R511; CPL complements A, HF = NF = 1; NEG subtracts A from 0, its PV free; CCF inverts CF, NF = 0,
its HF free; SCF sets CF, HF = NF = 0. The named flags not mentioned are kept. -/
def Obligations.AccumulatorOps : Prop :=
  ∀ s : State,
    (Runs .daa s fun t =>
      let low := if s.f.hf = true ∨ s.a.toNat % 16 > 9 then 6 else 0
      let high := if s.f.cf = true ∨ s.a.toNat > 0x99 then 0x60 else 0
      let res : Byte := if s.f.nf = true then s.a - BitVec.ofNat 8 (low + high) else s.a + BitVec.ofNat 8 (low + high)
      t.a = res ∧
      FlagsAre t res.msb (decide (res = 0)) ((s.a ^^^ res).getLsbD 4) (decide (ones res % 2 = 0)) s.f.nf
        (decide (s.f.cf = true ∨ s.a.toNat > 0x99))) ∧
    (Runs .cpl s fun t => t.a = s.a ^^^ 0xFF ∧ FlagsAre t s.f.sf s.f.zf true s.f.pv true s.f.cf) ∧
    (Runs .neg s fun t =>
      t.a = 0 - s.a ∧ t.f.sf = t.a.msb ∧ t.f.zf = decide (t.a = 0) ∧ t.f.hf = decide (s.a.toNat % 16 ≠ 0) ∧
      t.f.nf = true ∧ t.f.cf = decide (s.a ≠ 0)) ∧
    (Runs .ccf s fun t =>
      t.f.sf = s.f.sf ∧ t.f.zf = s.f.zf ∧ t.f.pv = s.f.pv ∧ t.f.nf = false ∧ t.f.cf = !s.f.cf) ∧
    Runs .scf s fun t => FlagsAre t s.f.sf s.f.zf false s.f.pv false true

/-- DAA after ADD or SUB of two-digit decimal numbers gives the decimal result (R511, R501, R503). With A and
the operand holding decimal numbers x and y below 100 as two digits, ADD A,n then DAA leaves the digits of x + y
mod 100 with CF saying x + y > 99; SUB n then DAA leaves the digits of x - y mod 100 with CF saying x < y. -/
def Obligations.DecimalArithmetic : Prop :=
  ∀ (s : State) (x y : Nat), x < 100 → y < 100 → s.a = bcd x →
    (Runs (.addAN (bcd y)) s fun t => Runs .daa t fun u =>
      u.a = bcd ((x + y) % 100) ∧ u.f.cf = decide (x + y > 99)) ∧
    Runs (.subN (bcd y)) s fun t => Runs .daa t fun u =>
      u.a = bcd ((x + 100 - y) % 100) ∧ u.f.cf = decide (x < y)

/-- ADD HL,rr, ADD IX,rr, ADD IY,rr: the sum, HF from bit 11, CF from bit 15 (R125). The destination is the
16-bit sum mod 2^16, HF is the carry from bit 11, NF 0, CF the carry from bit 15; SF, ZF and PV stay. In the IX
and IY forms code 2 is the index register itself. -/
def Obligations.PairSums : Prop :=
  ∀ s : State,
    (∀ q, Sums (.addHLRR q) s s.hl (s.pair q) fun t => t.hl) ∧
    Sums (.addIXRR .bc) s s.ix s.bc (fun t => t.ix) ∧ Sums (.addIXRR .de) s s.ix s.de (fun t => t.ix) ∧
    Sums (.addIXRR .xy) s s.ix s.ix (fun t => t.ix) ∧ Sums (.addIXRR .sp) s s.ix s.sp (fun t => t.ix) ∧
    Sums (.addIYRR .bc) s s.iy s.bc (fun t => t.iy) ∧ Sums (.addIYRR .de) s s.iy s.de (fun t => t.iy) ∧
    Sums (.addIYRR .xy) s s.iy s.iy (fun t => t.iy) ∧ Sums (.addIYRR .sp) s s.iy s.sp (fun t => t.iy)

/-- ADC HL,rr and SBC HL,rr: the result and all six flags (R126, R552, R553). HL is the sum or difference with
CF mod 2^16; SF and ZF are of the 16-bit result, HF the carry or borrow at bit 11, PV says that the signed
result leaves the 16-bit range, NF is 0 or 1, CF the carry or borrow. -/
def Obligations.PairCarrySums : Prop :=
  ∀ (s : State) (q : Pair),
    (Runs (.adcHLRR q) s fun t =>
      t.hl.toNat = (s.hl.toNat + (s.pair q).toNat + s.f.cf.toNat) % 65536 ∧
      FlagsAre t t.hl.msb (decide (t.hl = 0))
        (decide (s.hl.toNat % 4096 + (s.pair q).toNat % 4096 + s.f.cf.toNat > 4095))
        (decide (s.hl.toInt + (s.pair q).toInt + s.f.cf.toNat < -32768 ∨
          s.hl.toInt + (s.pair q).toInt + s.f.cf.toNat > 32767)) false
        (decide (s.hl.toNat + (s.pair q).toNat + s.f.cf.toNat > 65535))) ∧
    Runs (.sbcHLRR q) s fun t =>
      (t.hl.toNat : Int) = ((s.hl.toNat : Int) - (s.pair q).toNat - s.f.cf.toNat) % 65536 ∧
      FlagsAre t t.hl.msb (decide (t.hl = 0))
        (decide (s.hl.toNat % 4096 < (s.pair q).toNat % 4096 + s.f.cf.toNat))
        (decide (s.hl.toInt - (s.pair q).toInt - s.f.cf.toNat < -32768 ∨
          s.hl.toInt - (s.pair q).toInt - s.f.cf.toNat > 32767)) true
        (decide (s.hl.toNat < (s.pair q).toNat + s.f.cf.toNat))

/-- INC rr, DEC rr, ADD rr,A, ADD rr,nn and MUL D,E (R554, R555, R556, R557, R558, R559, R560). 16-bit increment
and decrement wrap; ADD rr,A adds A as an unsigned byte, CF free and the other named flags kept, and bits 5 and
3 of F kept too where addAKeepsUnnamed says so (R558's reading, log 17); ADD rr,nn adds the immediate; MUL
leaves the unsigned product of D and E in DE. No named flag changes but that CF, and all but ADD rr,A leave all
of F (for ADD rr,nn and MUL that is log 19). -/
def Obligations.PairArithmetic : Prop :=
  ∀ s : State,
    (∀ q, Runs (.incRR q) s fun t => t.pair q = s.pair q + 1 ∧ t.f = s.f) ∧
    (∀ q, Runs (.decRR q) s fun t => t.pair q = s.pair q - 1 ∧ t.f = s.f) ∧
    (Runs .incIX s fun t => t.ix = s.ix + 1 ∧ t.f = s.f) ∧ (Runs .incIY s fun t => t.iy = s.iy + 1 ∧ t.f = s.f) ∧
    (Runs .decIX s fun t => t.ix = s.ix - 1 ∧ t.f = s.f) ∧ (Runs .decIY s fun t => t.iy = s.iy - 1 ∧ t.f = s.f) ∧
    (Runs .addHLA s fun t =>
      t.hl.toNat = (s.hl.toNat + s.a.toNat) % 65536 ∧ t.a = s.a ∧ CarryFree s t) ∧
    (Runs .addDEA s fun t =>
      t.de.toNat = (s.de.toNat + s.a.toNat) % 65536 ∧ t.a = s.a ∧ CarryFree s t) ∧
    (Runs .addBCA s fun t =>
      t.bc.toNat = (s.bc.toNat + s.a.toNat) % 65536 ∧ t.a = s.a ∧ CarryFree s t) ∧
    (∀ nn, Runs (.addHLNN nn) s fun t => t.hl = s.hl + nn ∧ t.f = s.f) ∧
    (∀ nn, Runs (.addDENN nn) s fun t => t.de = s.de + nn ∧ t.f = s.f) ∧
    (∀ nn, Runs (.addBCNN nn) s fun t => t.bc = s.bc + nn ∧ t.f = s.f) ∧
    Runs .mulDE s fun t => t.de.toNat = s.d.toNat * s.e.toNat ∧ t.f = s.f

/-- RLC, RRC, RL, RR: result and flags in every operand form (R127, R604, R605, R606, R607, R608, R613). On a
register, (HL), (IX+d), (IY+d) and the forms that copy the result to a register: RLC and RRC rotate 8 bits, RL
and RR 9 bits through CF; CF is the bit moved out, SF and ZF are of the result, PV its parity, HF = NF = 0.
Premise: canonical memory. -/
def Obligations.RotateResults : Prop :=
  ∀ s : State, s.mem.wf = true →
    ShiftForms s .rlcR .rlcAtHL .rlcAtIXd .rlcAtIYd .rlcAtIXdR .rlcAtIYdR
      (fun v => (2 * v + v / 128) % 256) (fun v => decide (v ≥ 128)) ∧
    ShiftForms s .rrcR .rrcAtHL .rrcAtIXd .rrcAtIYd .rrcAtIXdR .rrcAtIYdR
      (fun v => v / 2 + 128 * (v % 2)) (fun v => decide (v % 2 = 1)) ∧
    ShiftForms s .rlR .rlAtHL .rlAtIXd .rlAtIYd .rlAtIXdR .rlAtIYdR
      (fun v => (2 * v + s.f.cf.toNat) % 256) (fun v => decide (v ≥ 128)) ∧
    ShiftForms s .rrR .rrAtHL .rrAtIXd .rrAtIYd .rrAtIXdR .rrAtIYdR
      (fun v => v / 2 + 128 * s.f.cf.toNat) (fun v => decide (v % 2 = 1))

/-- SLA, SRA, SLI, SRL: result and flags in every operand form (R127, R604, R609, R610, R611, R612, R613). On a
register, (HL), (IX+d), (IY+d) and the forms that copy the result to a register: SLA shifts in 0, SLI shifts in
1, SRA keeps bit 7, SRL clears it; CF is the bit moved out, SF and ZF are of the result, PV its parity, HF = NF
= 0. Premise: canonical memory. -/
def Obligations.ShiftResults : Prop :=
  ∀ s : State, s.mem.wf = true →
    ShiftForms s .slaR .slaAtHL .slaAtIXd .slaAtIYd .slaAtIXdR .slaAtIYdR
      (fun v => 2 * v % 256) (fun v => decide (v ≥ 128)) ∧
    ShiftForms s .sraR .sraAtHL .sraAtIXd .sraAtIYd .sraAtIXdR .sraAtIYdR
      (fun v => v / 2 + 128 * (v / 128)) (fun v => decide (v % 2 = 1)) ∧
    ShiftForms s .sliR .sliAtHL .sliAtIXd .sliAtIYd .sliAtIXdR .sliAtIYdR
      (fun v => (2 * v + 1) % 256) (fun v => decide (v ≥ 128)) ∧
    ShiftForms s .srlR .srlAtHL .srlAtIXd .srlAtIYd .srlAtIXdR .srlAtIYdR
      (fun v => v / 2) (fun v => decide (v % 2 = 1))

/-- RLCA, RLA, RRCA, RRA: result, CF, and SF, ZF, PV kept (R600, R601, R602, R603, R127). The four accumulator
rotates, in arithmetic on A: CF is the bit moved out, HF = NF = 0, SF, ZF and PV keep their values. -/
def Obligations.AccumulatorRotates : Prop :=
  ∀ s : State,
    let rotates := fun (i : Instr) (res : Nat) (cout : Bool) =>
      Runs i s fun t => t.a.toNat = res ∧ FlagsAre t s.f.sf s.f.zf false s.f.pv false cout
    rotates .rlca ((2 * s.a.toNat + s.a.toNat / 128) % 256) (decide (s.a.toNat ≥ 128)) ∧
    rotates .rla ((2 * s.a.toNat + s.f.cf.toNat) % 256) (decide (s.a.toNat ≥ 128)) ∧
    rotates .rrca (s.a.toNat / 2 + 128 * (s.a.toNat % 2)) (decide (s.a.toNat % 2 = 1)) ∧
    rotates .rra (s.a.toNat / 2 + 128 * s.f.cf.toNat) (decide (s.a.toNat % 2 = 1))

/-- RLD and RRD rotate three nibbles, and each undoes the other (R614, R615). Of the number whose digits are the
low nibble of A and the two nibbles of (HL), RLD moves each digit up and RRD down, the high nibble of A staying;
SF, ZF and PV are of the new A, HF = NF = 0, CF is kept. Where (HL) is writable, RLD then RRD, and RRD then RLD,
restore A and every byte of memory. Premise: canonical memory. -/
def Obligations.NibbleRotates : Prop :=
  ∀ s : State, s.mem.wf = true →
    let a := s.a.toNat
    let m := (s.read s.hl).toNat
    (Runs .rld s fun t =>
      t.a.toNat = a / 16 * 16 + m / 16 ∧ Landed s t s.hl (BitVec.ofNat 8 (m % 16 * 16 + a % 16)) ∧
      FlagsAre t t.a.msb (decide (t.a = 0)) false (decide (ones t.a % 2 = 0)) false s.f.cf) ∧
    (Runs .rrd s fun t =>
      t.a.toNat = a / 16 * 16 + m % 16 ∧ Landed s t s.hl (BitVec.ofNat 8 (a % 16 * 16 + m / 16)) ∧
      FlagsAre t t.a.msb (decide (t.a = 0)) false (decide (ones t.a % 2 = 0)) false s.f.cf) ∧
    (writable s.cfg s.hl = true →
      (Runs .rld s fun t => Runs .rrd t fun u => u.a = s.a ∧ ∀ x, u.read x = s.read x) ∧
      Runs .rrd s fun t => Runs .rld t fun u => u.a = s.a ∧ ∀ x, u.read x = s.read x)

/-- BIT b,s: ZF is the complement of the bit, SF and PV free (R616). On a register, (HL), (IX+d) and (IY+d): ZF
is 1 exactly where the bit is 0, HF = 1, NF = 0, CF is kept, and memory and the registers do not change (SF and
PV are free values). -/
def Obligations.BitTests : Prop :=
  ∀ (s : State) (b : BitVec 3),
    let tests := fun (i : Instr) (v : Byte) =>
      Runs i s fun t =>
        t.f.zf = !v.getLsbD b.toNat ∧ t.f.hf = true ∧ t.f.nf = false ∧ t.f.cf = s.f.cf ∧ t.mem = s.mem ∧
        ∀ k, t.get k = s.get k
    (∀ r, tests (.bitBR b r) (s.get r)) ∧
    OnBytes s (.bitBAtHL b) (.bitBAtIXd b) (.bitBAtIYd b) fun i x => tests i (s.read x)

/-- SET and RES change the one bit, in every operand form, and no flag (R617, R618, R619). On a register, (HL),
(IX+d), (IY+d) and the forms that copy the result to a register: the result has bit b 1 (SET) or 0 (RES) and
every other bit as the operand; F is unchanged. Premise: canonical memory. -/
def Obligations.BitWrites : Prop :=
  ∀ (s : State) (b : BitVec 3), s.mem.wf = true →
    let bits := fun (v w : Byte) (x : Bool) =>
      ∀ k, k < 8 → w.getLsbD k = if k = b.toNat then x else v.getLsbD k
    let onR := fun (i : Instr) (r : Reg8) (x : Bool) => Runs i s fun t => bits (s.get r) (t.get r) x ∧ t.f = s.f
    let onByte := fun (i : Instr) (y : Word) (x : Bool) =>
      Runs i s fun t => ∃ w, bits (s.read y) w x ∧ Landed s t y w ∧ t.f = s.f
    let onCopy := fun (i : Instr) (y : Word) (r : Reg8) (x : Bool) =>
      Runs i s fun t => bits (s.read y) (t.get r) x ∧ Landed s t y (t.get r) ∧ t.f = s.f
    (∀ r, onR (.setBR b r) r true) ∧ (∀ r, onR (.resBR b r) r false) ∧
    (OnBytes s (.setBAtHL b) (.setBAtIXd b) (.setBAtIYd b) fun i y => onByte i y true) ∧
    (OnBytes s (.resBAtHL b) (.resBAtIXd b) (.resBAtIYd b) fun i y => onByte i y false) ∧
    (∀ d r, onCopy (.setBAtIXdR b d r) (s.ix + sext16 d) r true) ∧
    (∀ d r, onCopy (.setBAtIYdR b d r) (s.iy + sext16 d) r true) ∧
    (∀ d r, onCopy (.resBAtIXdR b d r) (s.ix + sext16 d) r false) ∧
    ∀ d r, onCopy (.resBAtIYdR b d r) (s.iy + sext16 d) r false

/-- BSLA, BSRA, BSRL, BSRF, BRLC on DE, in arithmetic, for every count in B (R620, R621, R622, R623, R624). With
n the low five bits of B: BSLA multiplies DE by 2^n mod 2^16, BSRL divides it as unsigned, BSRA divides it as
signed toward minus infinity, BSRF shifts in ones; BRLC rotates left by the low four bits of B. No flag changes
(log 19). -/
def Obligations.BarrelShifts : Prop :=
  ∀ s : State,
    let n := s.b.toNat % 32
    let k := s.b.toNat % 16
    (Runs .bslaDEB s fun t => t.de.toNat = s.de.toNat * 2 ^ n % 65536 ∧ t.f = s.f) ∧
    (Runs .bsraDEB s fun t => t.de.toInt = s.de.toInt / 2 ^ n ∧ t.f = s.f) ∧
    (Runs .bsrlDEB s fun t => t.de.toNat = s.de.toNat / 2 ^ n ∧ t.f = s.f) ∧
    (Runs .bsrfDEB s fun t => t.de.toNat = 65535 - (65535 - s.de.toNat) / 2 ^ n ∧ t.f = s.f) ∧
    Runs .brlcDEB s fun t =>
      t.de.toNat = s.de.toNat * 2 ^ k % 65536 + s.de.toNat / 2 ^ (16 - k) ∧ t.f = s.f

/-- MIRROR A, SWAPNIB and SETAE (R625, R626, R627). MIRROR reverses the bits of A, SWAPNIB exchanges its
nibbles, SETAE puts into A the one bit that the low three bits of E count from the top. No flag changes (log
19). -/
def Obligations.AccumulatorPatterns : Prop :=
  ∀ s : State,
    (Runs .mirrorA s fun t => (∀ k, k < 8 → t.a.getLsbD k = s.a.getLsbD (7 - k)) ∧ t.f = s.f) ∧
    (Runs .swapnib s fun t => t.a.toNat = s.a.toNat % 16 * 16 + s.a.toNat / 16 ∧ t.f = s.f) ∧
    Runs .setae s fun t => t.a.toNat = 2 ^ (7 - s.e.toNat % 8) ∧ t.f = s.f

/-- PIXELAD is the screen layout, PIXELDN goes one line down it (R880, R881). PIXELAD leaves in HL the address
made of y[7:6], y[2:0], y[5:3], x[7:3] above 4000; for a line above 191 PIXELDN after PIXELAD gives the address
of the same column one line down. PIXELDN on any HL follows the three cases of R881, said on the parts of the
address. -/
def Obligations.PixelAddresses : Prop :=
  (∀ s : State, Runs .pixelad s fun t =>
    t.hl.toNat = 0x4000 + s.d.toNat / 64 * 2048 + s.d.toNat % 8 * 256 + s.d.toNat / 8 % 8 * 32 + s.e.toNat / 8) ∧
  (∀ s : State, s.d.toNat < 191 → Runs .pixelad s fun t => Runs .pixeldn t fun u =>
    Runs .pixelad { s with d := s.d + 1 } fun v => u.hl = v.hl) ∧
  ∀ s : State, Runs .pixeldn s fun t =>
    let a := s.hl.toNat
    t.hl.toNat =
      (if a / 256 % 8 ≠ 7 then a + 256
       else if a / 32 % 8 ≠ 7 then a - 7 * 256 + 32
       else a - 7 * 256 - 7 * 32 + 2048) % 65536

/-- JP, JR, DJNZ: where they go, and that all but DJNZ and JP (C) change nothing else (R701, R702, R703, R704,
R705, R706, R707, R708, R310). Absolute and register jumps go to their target; conditional ones where the
condition holds, else to the next instruction; relative ones by the signed offset from the next instruction, mod
2^16; DJNZ decrements B mod 256 and jumps unless it is 0 then. JP (C) reads port BC, an event, and goes to 64
times the byte inside the 16K block of the next instruction (F is free after it). -/
def Obligations.JumpResults : Prop :=
  ∀ s : State,
    (∀ nn, exec (.jpNN nn) s = .next { s with pc := nn }) ∧
    (∀ cc nn, exec (.jpCondNN cc nn) s = .next { s with pc := if s.cond cc then nn else s.pc + 3 }) ∧
    exec .jpAtHL s = .next { s with pc := s.hl } ∧ exec .jpAtIX s = .next { s with pc := s.ix } ∧
    exec .jpAtIY s = .next { s with pc := s.iy } ∧
    (∀ e : Byte, exec (.jrE e) s = .next { s with pc := s.pc + 2 + BitVec.ofInt 16 e.toInt }) ∧
    (∀ (cc : Cond) (e : Byte), exec (.jrCondE cc e) s =
      .next { s with pc := if s.cond cc then s.pc + 2 + BitVec.ofInt 16 e.toInt else s.pc + 2 }) ∧
    (∀ e : Byte, exec (.djnzE e) s =
      .next { s with b := s.b - 1, pc := if s.b = 1 then s.pc + 2 else s.pc + 2 + BitVec.ofInt 16 e.toInt }) ∧
    Runs .jpAtC s fun t => ∃ v : Byte,
      t.events = s.events ++ [.portRead s.bc v] ∧
      t.pc.toNat = (s.pc + 2).toNat / 16384 * 16384 + 64 * v.toNat

/-- CALL, RST, RET, RETI, RETN: what is pushed or popped, and where they go (R709, R710, R711, R712, R713, R855,
R856, R230). CALL, a CALL whose condition holds, and RST push the address of the next instruction and go to the
target; RET, a RET whose condition holds, RETI and RETN pop PC; a condition that fails goes to the next
instruction and leaves SP and memory. RETI leaves the flip-flops, RETN copies IFF2 to IFF1. Premise: canonical
memory. -/
def Obligations.CallsAndReturns : Prop :=
  ∀ s : State, s.mem.wf = true →
    let calls := fun (t : State) (ret target : Word) => Pushed s t ret ∧ t.pc = target
    let popped := join (s.read (s.sp + 1)) (s.read s.sp)
    (∀ nn, Runs (.callNN nn) s fun t => calls t (s.pc + 3) nn) ∧
    (∀ cc nn, s.cond cc = true → Runs (.callCondNN cc nn) s fun t => calls t (s.pc + 3) nn) ∧
    (∀ cc nn, s.cond cc = false → exec (.callCondNN cc nn) s = .next { s with pc := s.pc + 3 }) ∧
    (∀ v : BitVec 3, Runs (.rstN v) s fun t => calls t (s.pc + 1) (BitVec.ofNat 16 (8 * v.toNat))) ∧
    exec .ret s = .next { s with sp := s.sp + 2, pc := popped } ∧
    (∀ cc, s.cond cc = true → exec (.retCond cc) s = .next { s with sp := s.sp + 2, pc := popped }) ∧
    (∀ cc, s.cond cc = false → exec (.retCond cc) s = .next { s with pc := s.pc + 1 }) ∧
    exec .reti s = .next { s with sp := s.sp + 2, pc := popped } ∧
    exec .retn s = .next { s with sp := s.sp + 2, pc := popped, iff1 := s.iff2 }

/-- RET after CALL comes back to the instruction after the CALL (R709, R711, R230). Where both bytes below SP
are writable, CALL nn then RET leaves PC after the CALL and SP as it was. -/
def Obligations.CallThenReturn : Prop :=
  ∀ (s : State) (nn : Word), s.mem.wf = true → writable s.cfg (s.sp - 1) = true →
    writable s.cfg (s.sp - 2) = true →
    Runs (.callNN nn) s fun t => t.pc = nn ∧ Runs .ret t fun u => u.pc = s.pc + 3 ∧ u.sp = s.sp

/-- LDI, LDD and one pass of LDIR, LDDR (R750, R751, R752, R753, R758). The byte at HL lands at DE; HL and DE go
up (LDI, LDIR) or down (LDD, LDDR) and BC goes down, mod 2^16; PV says that BC is not 0 then, HF = NF = 0, SF,
ZF, CF are kept. The repeating ones stay at their own address until BC is 0. Premise: canonical memory. -/
def Obligations.BlockCopies : Prop :=
  ∀ s : State, s.mem.wf = true →
    let copies := fun (i : Instr) (by1 : Word) (pc : State → Word) =>
      Runs i s fun t =>
        Landed s t s.de (s.read s.hl) ∧ Moved s t by1 by1 (-1) ∧
        FlagsAre t s.f.sf s.f.zf false (decide (t.bc ≠ 0)) false s.f.cf ∧ t.pc = pc t
    copies .ldi 1 (fun _ => s.pc + 2) ∧ copies .ldd (-1) (fun _ => s.pc + 2) ∧
    copies .ldir 1 (fun t => if t.bc = 0 then s.pc + 2 else s.pc) ∧
    copies .lddr (-1) (fun t => if t.bc = 0 then s.pc + 2 else s.pc)

/-- CPI, CPD and one pass of CPIR, CPDR (R754, R755, R756, R757, R758). ZF says that A equals the byte at HL, SF
and HF are of the difference, PV says that BC is not 0 afterwards, NF = 1, CF and A are kept; HL goes up or down
and BC down. The repeating ones stay at their own address until BC is 0 or the byte was found. -/
def Obligations.BlockSearches : Prop :=
  ∀ s : State,
    let searches := fun (i : Instr) (by1 : Word) (pc : State → Word) =>
      Runs i s fun t =>
        Moved s t by1 0 (-1) ∧ t.a = s.a ∧ t.mem = s.mem ∧
        FlagsAre t (s.a - s.read s.hl).msb (decide (s.a = s.read s.hl))
          (decide (s.a.toNat % 16 < (s.read s.hl).toNat % 16)) (decide (t.bc ≠ 0)) true s.f.cf ∧ t.pc = pc t
    let stops := fun (t : State) => if t.bc = 0 ∨ s.a = s.read s.hl then s.pc + 2 else s.pc
    searches .cpi 1 (fun _ => s.pc + 2) ∧ searches .cpd (-1) (fun _ => s.pc + 2) ∧
    searches .cpir 1 stops ∧ searches .cpdr (-1) stops

/-- LDIX, LDDX, their repeating forms, LDPIRX and LDWS (R759, R760, R761, R762, R763, R764). LDIX, LDIRX, LDDX,
LDDRX copy the byte at HL to DE unless it equals A, HL moving up or down, DE up and BC down; LDPIRX takes the
byte at HL with its low 3 bits replaced by those of DE and leaves HL; none of them changes F. LDWS copies
always, increments L and D alone, with the flags of INC D. Premise: canonical memory. -/
def Obligations.NextBlockCopies : Prop :=
  ∀ s : State, s.mem.wf = true →
    let puts := fun (t : State) (v : Byte) =>
      if v = s.a then ∀ x, t.read x = s.read x else Landed s t s.de v
    let copies := fun (i : Instr) (by1 : Word) (pc : State → Word) =>
      Runs i s fun t => puts t (s.read s.hl) ∧ Moved s t by1 1 (-1) ∧ t.f = s.f ∧ t.pc = pc t
    let repeats := fun (t : State) => if t.bc = 0 then s.pc + 2 else s.pc
    copies .ldix 1 (fun _ => s.pc + 2) ∧ copies .lddx (-1) (fun _ => s.pc + 2) ∧
    copies .ldirx 1 repeats ∧ copies .lddrx (-1) repeats ∧
    (Runs .ldpirx s fun t =>
      puts t (s.read (BitVec.ofNat 16 (s.hl.toNat / 8 * 8 + s.de.toNat % 8))) ∧ Moved s t 0 1 (-1) ∧
      t.f = s.f ∧ t.pc = repeats t) ∧
    Increments .ldws s s.d fun t v =>
      t.d = v ∧ Landed s t s.de (s.read s.hl) ∧ t.l = s.l + 1 ∧ t.h = s.h ∧ t.e = s.e ∧ t.bc = s.bc

/-- LDIR executed BC times copies the block and ends past itself (R751, R758). In RAM, where the BC bytes at DE
are all outside the BC bytes at HL and BC is not 0: BC executions of LDIR copy the block byte for byte and leave
every other byte, HL and DE past their blocks, BC 0 and PC after the instruction. -/
def Obligations.LdirCopiesBlock : Prop :=
  ∀ s : State, s.mem.wf = true → s.cfg.rom = [] → s.bc ≠ 0 →
    (∀ j k : Nat, j < s.bc.toNat → k < s.bc.toNat → s.de + BitVec.ofNat 16 j ≠ s.hl + BitVec.ofNat 16 k) →
    ∃ t, again .ldir s.bc.toNat s = .next t ∧ t.bc = 0 ∧ t.hl = s.hl + s.bc ∧ t.de = s.de + s.bc ∧
      t.pc = s.pc + 2 ∧
      (∀ k : Nat, k < s.bc.toNat → t.read (s.de + BitVec.ofNat 16 k) = s.read (s.hl + BitVec.ofNat 16 k)) ∧
      ∀ x, (∀ k : Nat, k < s.bc.toNat → x ≠ s.de + BitVec.ofNat 16 k) → t.read x = s.read x

/-- IN, OUT and NEXTREG: the port, the value, the event and the flags (R800, R801, R802, R803, R804, R805, R815,
R816, R817). IN A,(n) and OUT (n),A use port A ++ n, the (C) forms port B ++ C as they were before; a read is
logged with the byte it returned, which goes to the register; IN r,(C) and IN (C) set the flags from it, the
others leave F; OUT (C),0 writes 00; NEXTREG logs the register number and the value (that it leaves F is log 19;
the list of events is log 12). -/
def Obligations.InputOutput : Prop :=
  ∀ s : State,
    let logs := fun (t : State) (e : Event) => t.events = s.events ++ [e]
    let flags := fun (t : State) (v : Byte) =>
      FlagsAre t v.msb (decide (v = 0)) false (decide (ones v % 2 = 0)) false s.f.cf
    (∀ n, Runs (.inAAtN n) s fun t => logs t (.portRead (join s.a n) t.a) ∧ t.f = s.f) ∧
    (∀ k, Runs (.inRAtC k) s fun t => logs t (.portRead (join s.b s.c) (t.get k)) ∧ flags t (t.get k)) ∧
    (Runs .inAtC s fun t => ∃ v, logs t (.portRead (join s.b s.c) v) ∧ flags t v) ∧
    (∀ n, Runs (.outAtNA n) s fun t => logs t (.portWrite (join s.a n) s.a) ∧ t.f = s.f) ∧
    (∀ k, Runs (.outAtCR k) s fun t => logs t (.portWrite (join s.b s.c) (s.get k)) ∧ t.f = s.f) ∧
    (Runs .outAtCZero s fun t => logs t (.portWrite (join s.b s.c) 0x00) ∧ t.f = s.f) ∧
    (∀ g n, Runs (.nextregNN g n) s fun t => logs t (.nextRegWrite g n) ∧ t.f = s.f) ∧
    ∀ g, Runs (.nextregNA g) s fun t => logs t (.nextRegWrite g s.a) ∧ t.f = s.f

/-- INI, IND, OUTI, OUTD, their repeating forms, and OUTINB (R806, R807, R808, R809, R810, R811, R812, R813,
R814, R758). The input forms read port B ++ C with B as before and the byte lands at HL; the output forms send
the byte at HL to a port whose high byte is B before or after the decrement as out_block_port_b says; HL moves,
B goes down, ZF says that it is 0 then, the other flags are free; the repeating ones stay at their own address
until B is 0. OUTINB sends to port BC and leaves B. Premise: canonical memory. -/
def Obligations.BlockInputOutput : Prop :=
  ∀ s : State, s.mem.wf = true →
    let counts := fun (t : State) (by1 : Word) =>
      t.hl = s.hl + by1 ∧ t.b = s.b - 1 ∧ t.c = s.c ∧ t.f.zf = decide (t.b = 0)
    let reads := fun (i : Instr) (by1 : Word) (pc : State → Word) =>
      Runs i s fun t => counts t by1 ∧ t.pc = pc t ∧
        ∃ v, t.events = s.events ++ [.portRead (join s.b s.c) v] ∧ Landed s t s.hl v
    let port := match s.cfg.outPortB with
      | .before => join s.b s.c
      | .after => join (s.b - 1) s.c
    let sends := fun (i : Instr) (by1 : Word) (pc : State → Word) =>
      Runs i s fun t => counts t by1 ∧ t.pc = pc t ∧ t.mem = s.mem ∧
        t.events = s.events ++ [.portWrite port (s.read s.hl)]
    let repeats := fun (t : State) => if t.b = 0 then s.pc + 2 else s.pc
    reads .ini 1 (fun _ => s.pc + 2) ∧ reads .ind (-1) (fun _ => s.pc + 2) ∧ reads .inir 1 repeats ∧
    reads .indr (-1) repeats ∧ sends .outi 1 (fun _ => s.pc + 2) ∧ sends .outd (-1) (fun _ => s.pc + 2) ∧
    sends .otir 1 repeats ∧ sends .otdr (-1) repeats ∧
    Runs .outinb s fun t =>
      t.hl = s.hl + 1 ∧ t.bc = s.bc ∧ t.mem = s.mem ∧ t.pc = s.pc + 2 ∧
      t.events = s.events ++ [.portWrite (join s.b s.c) (s.read s.hl)]

/-- NOP, HALT, DI, EI and IM, and nothing else changed (R850, R851, R852, R853, R854). NOP only advances PC;
HALT sets halted; DI clears both flip-flops under di_delay = 0 and sets di_pending under 1; EI sets both and
int_inhibit; IM sets the mode. Every other part of the state is the same. -/
def Obligations.CpuControl : Prop :=
  ∀ s : State,
    exec .nop s = .next { s with pc := s.pc + 1 } ∧
    exec .halt s = .next { s with halted := true, pc := s.pc + 1 } ∧
    (s.cfg.diDelay = false → exec .di s = .next { s with iff1 := false, iff2 := false, pc := s.pc + 1 }) ∧
    (s.cfg.diDelay = true → exec .di s = .next { s with diPending := true, pc := s.pc + 1 }) ∧
    exec .ei s = .next { s with iff1 := true, iff2 := true, intInhibit := true, pc := s.pc + 1 } ∧
    exec .im0 s = .next { s with im := .im0, pc := s.pc + 2 } ∧
    exec .im1 s = .next { s with im := .im1, pc := s.pc + 2 } ∧
    exec .im2 s = .next { s with im := .im2, pc := s.pc + 2 }

/-- A maskable interrupt is taken by the response of its mode (R903, R904, R905, R906). Where INT alone is
asserted, IFF1 is 1 and int_inhibit is 0: PC is pushed, halted, IFF1, IFF2, di_pending and int_inhibit are
cleared, SP, the stack and PC change, one entry of IntSource is used up (log 6), and nothing else changes; PC
becomes 0038 in mode 1, the word at I ++ bus (read after the push) in mode 2, 8 times bits 5..3 of the bus byte
in mode 0 if it is an RST opcode; in mode 0 any other byte is refused. That taking the event is a whole step of
its own is log 7 (DEDUCED). Premise: canonical memory. -/
def Obligations.InterruptTaken : Prop :=
  ∀ (s : State) (bus : Byte), s.mem.wf = true →
    s.asserted = { reset := false, nmi := false, int := true, bus := bus } → s.iff1 = true →
    s.intInhibit = false →
    (s.im = .im0 → bus &&& 0xC7 = 0xC7 →
      ∃ t, step s = .next t ∧ Acknowledges s t ∧ t.pc = BitVec.ofNat 16 (8 * (bus.toNat / 8 % 8))) ∧
    (s.im = .im0 → bus &&& 0xC7 ≠ 0xC7 → step s = .refused (.mode0BusByte bus)) ∧
    (s.im = .im1 → ∃ t, step s = .next t ∧ Acknowledges s t ∧ t.pc = 0x0038) ∧
    (s.im = .im2 → ∃ t, step s = .next t ∧ Acknowledges s t ∧
      t.pc = join (t.read (join s.i bus + 1)) (t.read (join s.i bus)))

/-- A non-maskable interrupt is taken whatever the interrupt bits say (R908). Where NMI is asserted and reset is
not, whatever INT, IFF1, int_inhibit and the mode are: PC is pushed and becomes 0066; halted, IFF1, di_pending
and int_inhibit are cleared; IFF2 is kept, or cleared if a DI was pending; one entry of IntSource is used up
(log 6); nothing else changes. That taking the event is a whole step of its own is log 7 (DEDUCED). Premise:
canonical memory. -/
def Obligations.NmiTaken : Prop :=
  ∀ s : State, s.mem.wf = true → s.asserted.reset = false → s.asserted.nmi = true →
    ∃ t, step s = .next t ∧ Pushed s t s.pc ∧
      t = { s with halted := false, iff1 := false, iff2 := if s.diPending then false else s.iff2
                   diPending := false, intInhibit := false, intSource := s.intSource.tail
                   sp := s.sp - 2, mem := t.mem, pc := 0x0066 }

/-- RETN after an NMI comes back with the interrupt enable as it was (R908, R909, R856). Where an NMI is taken
with no DI pending, IFF1 = IFF2 and both bytes below SP writable, RETN executed next restores PC, SP and IFF1.
The first of the two steps is the NMI alone (log 7). -/
def Obligations.NmiThenReturn : Prop :=
  ∀ s : State, s.mem.wf = true → s.asserted.reset = false → s.asserted.nmi = true → s.diPending = false →
    s.iff1 = s.iff2 → writable s.cfg (s.sp - 1) = true → writable s.cfg (s.sp - 2) = true →
    ∃ t, step s = .next t ∧ Runs .retn t fun u => u.pc = s.pc ∧ u.sp = s.sp ∧ u.iff1 = s.iff1 ∧ u.iff2 = s.iff2

/-- While halted and with nothing accepted, a step changes nothing (R851, R911, R902). Where the CPU is halted,
no reset and no NMI is asserted and an asserted INT is masked by IFF1 or int_inhibit, the step uses up the
boundary (log 6's list) and changes nothing else; no instruction is fetched. -/
def Obligations.HaltStays : Prop :=
  ∀ s : State, s.halted = true → s.asserted.reset = false → s.asserted.nmi = false →
    (s.asserted.int && s.iff1 && !s.intInhibit) = false →
    step s = .next { s with intSource := s.intSource.tail }

/-- After EI no maskable interrupt is taken at the next boundary, and after one more instruction the hold is
over (R853, R902). A step that runs EI with no DI pending leaves IFF1 = IFF2 = 1, and whatever INT asserts at
the next boundary an instruction is fetched there (unless reset or NMI is asserted); after that instruction, if
it is no EI, int_inhibit is 0. -/
def Obligations.EnableDelay : Prop :=
  ∀ s : State, Fetches s → decode s.fetch = .instr .ei → s.diPending = false →
    ∃ t, step s = .next t ∧ t.iff1 = true ∧ t.iff2 = true ∧
      (t.asserted.reset = false → t.asserted.nmi = false → Fetches t ∧
        ∀ i u, decode t.fetch = .instr i → i ≠ .ei → step t = .next u → u.intInhibit = false)

/-- Under di_delay = 1 a DI acts at the end of the instruction after it (R852, R903). A step that runs DI under
di_delay = 1 with no DI pending before leaves the flip-flops and sets di_pending; a step that runs any
instruction with di_pending set ends with IFF1 = IFF2 = 0. That EI and RETN as that instruction end so too is
the model's reading (log 11). -/
def Obligations.DisableDelay : Prop :=
  ∀ s : State, Fetches s →
    (decode s.fetch = .instr .di → s.cfg.diDelay = true → s.diPending = false →
      ∃ t, step s = .next t ∧ t.iff1 = s.iff1 ∧ t.iff2 = s.iff2 ∧ t.diPending = true) ∧
    ∀ i, decode s.fetch = .instr i → s.diPending = true →
      ∃ t, step s = .next t ∧ t.iff1 = false ∧ t.iff2 = false
end

