-- ==== Sys2Proof/Laws/Exec.lean ====
section
/-! SUPPORT. What `exec`, `touched`, `stores` and `transfers` are at each constructor, so that no proof unfolds a match of
all of them. -/

namespace Sys2Proof.Machine

@[simp] theorem exec_ldRR (t : Reg8) (r : Reg8) (s : State) : exec (.ldRR t r) s = execLdRR t r s := rfl
@[simp] theorem touched_ldRR (t : Reg8) (r : Reg8) : touched (.ldRR t r) = [regPlace t] := rfl
@[simp] theorem stores_ldRR (t : Reg8) (r : Reg8) (s : State) : stores s (.ldRR t r) = [] := rfl
@[simp] theorem transfers_ldRR (t : Reg8) (r : Reg8) : transfers (.ldRR t r) = false := rfl
@[simp] theorem exec_ldRN (t : Reg8) (n : Byte) (s : State) : exec (.ldRN t n) s = execLdRN t n s := rfl
@[simp] theorem touched_ldRN (t : Reg8) (n : Byte) : touched (.ldRN t n) = [regPlace t] := rfl
@[simp] theorem stores_ldRN (t : Reg8) (n : Byte) (s : State) : stores s (.ldRN t n) = [] := rfl
@[simp] theorem transfers_ldRN (t : Reg8) (n : Byte) : transfers (.ldRN t n) = false := rfl
@[simp] theorem exec_ldRAtHL (t : Reg8) (s : State) : exec (.ldRAtHL t) s = execLdRAtHL t s := rfl
@[simp] theorem touched_ldRAtHL (t : Reg8) : touched (.ldRAtHL t) = [regPlace t] := rfl
@[simp] theorem stores_ldRAtHL (t : Reg8) (s : State) : stores s (.ldRAtHL t) = [] := rfl
@[simp] theorem transfers_ldRAtHL (t : Reg8) : transfers (.ldRAtHL t) = false := rfl
@[simp] theorem exec_ldAtHLR (r : Reg8) (s : State) : exec (.ldAtHLR r) s = execLdAtHLR r s := rfl
@[simp] theorem touched_ldAtHLR (r : Reg8) : touched (.ldAtHLR r) = [.mem] := rfl
@[simp] theorem stores_ldAtHLR (r : Reg8) (s : State) : stores s (.ldAtHLR r) = [s.hl] := rfl
@[simp] theorem transfers_ldAtHLR (r : Reg8) : transfers (.ldAtHLR r) = false := rfl
@[simp] theorem exec_ldAtHLN (n : Byte) (s : State) : exec (.ldAtHLN n) s = execLdAtHLN n s := rfl
@[simp] theorem touched_ldAtHLN (n : Byte) : touched (.ldAtHLN n) = [.mem] := rfl
@[simp] theorem stores_ldAtHLN (n : Byte) (s : State) : stores s (.ldAtHLN n) = [s.hl] := rfl
@[simp] theorem transfers_ldAtHLN (n : Byte) : transfers (.ldAtHLN n) = false := rfl
@[simp] theorem exec_ldRAtIXd (t : Reg8) (d : Byte) (s : State) : exec (.ldRAtIXd t d) s = execLdRAtIXd t d s := rfl
@[simp] theorem touched_ldRAtIXd (t : Reg8) (d : Byte) : touched (.ldRAtIXd t d) = [regPlace t] := rfl
@[simp] theorem stores_ldRAtIXd (t : Reg8) (d : Byte) (s : State) : stores s (.ldRAtIXd t d) = [] := rfl
@[simp] theorem transfers_ldRAtIXd (t : Reg8) (d : Byte) : transfers (.ldRAtIXd t d) = false := rfl
@[simp] theorem exec_ldAtIXdR (d : Byte) (r : Reg8) (s : State) : exec (.ldAtIXdR d r) s = execLdAtIXdR d r s := rfl
@[simp] theorem touched_ldAtIXdR (d : Byte) (r : Reg8) : touched (.ldAtIXdR d r) = [.mem] := rfl
@[simp] theorem stores_ldAtIXdR (d : Byte) (r : Reg8) (s : State) :
    stores s (.ldAtIXdR d r) = [s.indexed .ix d] := rfl
@[simp] theorem transfers_ldAtIXdR (d : Byte) (r : Reg8) : transfers (.ldAtIXdR d r) = false := rfl
@[simp] theorem exec_ldAtIXdN (d : Byte) (n : Byte) (s : State) : exec (.ldAtIXdN d n) s = execLdAtIXdN d n s := rfl
@[simp] theorem touched_ldAtIXdN (d : Byte) (n : Byte) : touched (.ldAtIXdN d n) = [.mem] := rfl
@[simp] theorem stores_ldAtIXdN (d : Byte) (n : Byte) (s : State) :
    stores s (.ldAtIXdN d n) = [s.indexed .ix d] := rfl
@[simp] theorem transfers_ldAtIXdN (d : Byte) (n : Byte) : transfers (.ldAtIXdN d n) = false := rfl
@[simp] theorem exec_ldRAtIYd (t : Reg8) (d : Byte) (s : State) : exec (.ldRAtIYd t d) s = execLdRAtIYd t d s := rfl
@[simp] theorem touched_ldRAtIYd (t : Reg8) (d : Byte) : touched (.ldRAtIYd t d) = [regPlace t] := rfl
@[simp] theorem stores_ldRAtIYd (t : Reg8) (d : Byte) (s : State) : stores s (.ldRAtIYd t d) = [] := rfl
@[simp] theorem transfers_ldRAtIYd (t : Reg8) (d : Byte) : transfers (.ldRAtIYd t d) = false := rfl
@[simp] theorem exec_ldAtIYdR (d : Byte) (r : Reg8) (s : State) : exec (.ldAtIYdR d r) s = execLdAtIYdR d r s := rfl
@[simp] theorem touched_ldAtIYdR (d : Byte) (r : Reg8) : touched (.ldAtIYdR d r) = [.mem] := rfl
@[simp] theorem stores_ldAtIYdR (d : Byte) (r : Reg8) (s : State) :
    stores s (.ldAtIYdR d r) = [s.indexed .iy d] := rfl
@[simp] theorem transfers_ldAtIYdR (d : Byte) (r : Reg8) : transfers (.ldAtIYdR d r) = false := rfl
@[simp] theorem exec_ldAtIYdN (d : Byte) (n : Byte) (s : State) : exec (.ldAtIYdN d n) s = execLdAtIYdN d n s := rfl
@[simp] theorem touched_ldAtIYdN (d : Byte) (n : Byte) : touched (.ldAtIYdN d n) = [.mem] := rfl
@[simp] theorem stores_ldAtIYdN (d : Byte) (n : Byte) (s : State) :
    stores s (.ldAtIYdN d n) = [s.indexed .iy d] := rfl
@[simp] theorem transfers_ldAtIYdN (d : Byte) (n : Byte) : transfers (.ldAtIYdN d n) = false := rfl
@[simp] theorem exec_ldAAtNN (nn : Word) (s : State) : exec (.ldAAtNN nn) s = execLdAAtNN nn s := rfl
@[simp] theorem touched_ldAAtNN (nn : Word) : touched (.ldAAtNN nn) = [.a] := rfl
@[simp] theorem stores_ldAAtNN (nn : Word) (s : State) : stores s (.ldAAtNN nn) = [] := rfl
@[simp] theorem transfers_ldAAtNN (nn : Word) : transfers (.ldAAtNN nn) = false := rfl
@[simp] theorem exec_ldAtNNA (nn : Word) (s : State) : exec (.ldAtNNA nn) s = execLdAtNNA nn s := rfl
@[simp] theorem touched_ldAtNNA (nn : Word) : touched (.ldAtNNA nn) = [.mem] := rfl
@[simp] theorem stores_ldAtNNA (nn : Word) (s : State) : stores s (.ldAtNNA nn) = [nn] := rfl
@[simp] theorem transfers_ldAtNNA (nn : Word) : transfers (.ldAtNNA nn) = false := rfl
@[simp] theorem exec_ldRIXH (t : Reg8) (s : State) : exec (.ldRIXH t) s = execLdRIXH t s := rfl
@[simp] theorem touched_ldRIXH (t : Reg8) : touched (.ldRIXH t) = [regPlace t] := rfl
@[simp] theorem stores_ldRIXH (t : Reg8) (s : State) : stores s (.ldRIXH t) = [] := rfl
@[simp] theorem transfers_ldRIXH (t : Reg8) : transfers (.ldRIXH t) = false := rfl
@[simp] theorem exec_ldIXHR (r : Reg8) (s : State) : exec (.ldIXHR r) s = execLdIXHR r s := rfl
@[simp] theorem touched_ldIXHR (r : Reg8) : touched (.ldIXHR r) = [.ix] := rfl
@[simp] theorem stores_ldIXHR (r : Reg8) (s : State) : stores s (.ldIXHR r) = [] := rfl
@[simp] theorem transfers_ldIXHR (r : Reg8) : transfers (.ldIXHR r) = false := rfl
@[simp] theorem exec_ldIXHN (n : Byte) (s : State) : exec (.ldIXHN n) s = execLdIXHN n s := rfl
@[simp] theorem touched_ldIXHN (n : Byte) : touched (.ldIXHN n) = [.ix] := rfl
@[simp] theorem stores_ldIXHN (n : Byte) (s : State) : stores s (.ldIXHN n) = [] := rfl
@[simp] theorem transfers_ldIXHN (n : Byte) : transfers (.ldIXHN n) = false := rfl
@[simp] theorem exec_ldRIXL (t : Reg8) (s : State) : exec (.ldRIXL t) s = execLdRIXL t s := rfl
@[simp] theorem touched_ldRIXL (t : Reg8) : touched (.ldRIXL t) = [regPlace t] := rfl
@[simp] theorem stores_ldRIXL (t : Reg8) (s : State) : stores s (.ldRIXL t) = [] := rfl
@[simp] theorem transfers_ldRIXL (t : Reg8) : transfers (.ldRIXL t) = false := rfl
@[simp] theorem exec_ldIXLR (r : Reg8) (s : State) : exec (.ldIXLR r) s = execLdIXLR r s := rfl
@[simp] theorem touched_ldIXLR (r : Reg8) : touched (.ldIXLR r) = [.ix] := rfl
@[simp] theorem stores_ldIXLR (r : Reg8) (s : State) : stores s (.ldIXLR r) = [] := rfl
@[simp] theorem transfers_ldIXLR (r : Reg8) : transfers (.ldIXLR r) = false := rfl
@[simp] theorem exec_ldIXLN (n : Byte) (s : State) : exec (.ldIXLN n) s = execLdIXLN n s := rfl
@[simp] theorem touched_ldIXLN (n : Byte) : touched (.ldIXLN n) = [.ix] := rfl
@[simp] theorem stores_ldIXLN (n : Byte) (s : State) : stores s (.ldIXLN n) = [] := rfl
@[simp] theorem transfers_ldIXLN (n : Byte) : transfers (.ldIXLN n) = false := rfl
@[simp] theorem exec_ldRIYH (t : Reg8) (s : State) : exec (.ldRIYH t) s = execLdRIYH t s := rfl
@[simp] theorem touched_ldRIYH (t : Reg8) : touched (.ldRIYH t) = [regPlace t] := rfl
@[simp] theorem stores_ldRIYH (t : Reg8) (s : State) : stores s (.ldRIYH t) = [] := rfl
@[simp] theorem transfers_ldRIYH (t : Reg8) : transfers (.ldRIYH t) = false := rfl
@[simp] theorem exec_ldIYHR (r : Reg8) (s : State) : exec (.ldIYHR r) s = execLdIYHR r s := rfl
@[simp] theorem touched_ldIYHR (r : Reg8) : touched (.ldIYHR r) = [.iy] := rfl
@[simp] theorem stores_ldIYHR (r : Reg8) (s : State) : stores s (.ldIYHR r) = [] := rfl
@[simp] theorem transfers_ldIYHR (r : Reg8) : transfers (.ldIYHR r) = false := rfl
@[simp] theorem exec_ldIYHN (n : Byte) (s : State) : exec (.ldIYHN n) s = execLdIYHN n s := rfl
@[simp] theorem touched_ldIYHN (n : Byte) : touched (.ldIYHN n) = [.iy] := rfl
@[simp] theorem stores_ldIYHN (n : Byte) (s : State) : stores s (.ldIYHN n) = [] := rfl
@[simp] theorem transfers_ldIYHN (n : Byte) : transfers (.ldIYHN n) = false := rfl
@[simp] theorem exec_ldRIYL (t : Reg8) (s : State) : exec (.ldRIYL t) s = execLdRIYL t s := rfl
@[simp] theorem touched_ldRIYL (t : Reg8) : touched (.ldRIYL t) = [regPlace t] := rfl
@[simp] theorem stores_ldRIYL (t : Reg8) (s : State) : stores s (.ldRIYL t) = [] := rfl
@[simp] theorem transfers_ldRIYL (t : Reg8) : transfers (.ldRIYL t) = false := rfl
@[simp] theorem exec_ldIYLR (r : Reg8) (s : State) : exec (.ldIYLR r) s = execLdIYLR r s := rfl
@[simp] theorem touched_ldIYLR (r : Reg8) : touched (.ldIYLR r) = [.iy] := rfl
@[simp] theorem stores_ldIYLR (r : Reg8) (s : State) : stores s (.ldIYLR r) = [] := rfl
@[simp] theorem transfers_ldIYLR (r : Reg8) : transfers (.ldIYLR r) = false := rfl
@[simp] theorem exec_ldIYLN (n : Byte) (s : State) : exec (.ldIYLN n) s = execLdIYLN n s := rfl
@[simp] theorem touched_ldIYLN (n : Byte) : touched (.ldIYLN n) = [.iy] := rfl
@[simp] theorem stores_ldIYLN (n : Byte) (s : State) : stores s (.ldIYLN n) = [] := rfl
@[simp] theorem transfers_ldIYLN (n : Byte) : transfers (.ldIYLN n) = false := rfl
@[simp] theorem exec_ldRRNN (q : Pair) (nn : Word) (s : State) : exec (.ldRRNN q nn) s = execLdRRNN q nn s := rfl
@[simp] theorem touched_ldRRNN (q : Pair) (nn : Word) : touched (.ldRRNN q nn) = pairPlaces q := rfl
@[simp] theorem stores_ldRRNN (q : Pair) (nn : Word) (s : State) : stores s (.ldRRNN q nn) = [] := rfl
@[simp] theorem transfers_ldRRNN (q : Pair) (nn : Word) : transfers (.ldRRNN q nn) = false := rfl
@[simp] theorem exec_ldHLAtNN (nn : Word) (s : State) : exec (.ldHLAtNN nn) s = execLdHLAtNN nn s := rfl
@[simp] theorem touched_ldHLAtNN (nn : Word) : touched (.ldHLAtNN nn) = [.h, .l] := rfl
@[simp] theorem stores_ldHLAtNN (nn : Word) (s : State) : stores s (.ldHLAtNN nn) = [] := rfl
@[simp] theorem transfers_ldHLAtNN (nn : Word) : transfers (.ldHLAtNN nn) = false := rfl
@[simp] theorem exec_ldAtNNHL (nn : Word) (s : State) : exec (.ldAtNNHL nn) s = execLdAtNNHL nn s := rfl
@[simp] theorem touched_ldAtNNHL (nn : Word) : touched (.ldAtNNHL nn) = [.mem] := rfl
@[simp] theorem stores_ldAtNNHL (nn : Word) (s : State) : stores s (.ldAtNNHL nn) = [nn, nn + 1] := rfl
@[simp] theorem transfers_ldAtNNHL (nn : Word) : transfers (.ldAtNNHL nn) = false := rfl
@[simp] theorem exec_ldRRAtNN (q : Pair) (nn : Word) (s : State) :
    exec (.ldRRAtNN q nn) s = execLdRRAtNN q nn s := rfl
@[simp] theorem touched_ldRRAtNN (q : Pair) (nn : Word) : touched (.ldRRAtNN q nn) = pairPlaces q := rfl
@[simp] theorem stores_ldRRAtNN (q : Pair) (nn : Word) (s : State) : stores s (.ldRRAtNN q nn) = [] := rfl
@[simp] theorem transfers_ldRRAtNN (q : Pair) (nn : Word) : transfers (.ldRRAtNN q nn) = false := rfl
@[simp] theorem exec_ldAtNNRR (q : Pair) (nn : Word) (s : State) :
    exec (.ldAtNNRR q nn) s = execLdAtNNRR q nn s := rfl
@[simp] theorem touched_ldAtNNRR (q : Pair) (nn : Word) : touched (.ldAtNNRR q nn) = [.mem] := rfl
@[simp] theorem stores_ldAtNNRR (q : Pair) (nn : Word) (s : State) : stores s (.ldAtNNRR q nn) = [nn, nn + 1] := rfl
@[simp] theorem transfers_ldAtNNRR (q : Pair) (nn : Word) : transfers (.ldAtNNRR q nn) = false := rfl
@[simp] theorem exec_ldIXNN (nn : Word) (s : State) : exec (.ldIXNN nn) s = execLdIXNN nn s := rfl
@[simp] theorem touched_ldIXNN (nn : Word) : touched (.ldIXNN nn) = [.ix] := rfl
@[simp] theorem stores_ldIXNN (nn : Word) (s : State) : stores s (.ldIXNN nn) = [] := rfl
@[simp] theorem transfers_ldIXNN (nn : Word) : transfers (.ldIXNN nn) = false := rfl
@[simp] theorem exec_ldIXAtNN (nn : Word) (s : State) : exec (.ldIXAtNN nn) s = execLdIXAtNN nn s := rfl
@[simp] theorem touched_ldIXAtNN (nn : Word) : touched (.ldIXAtNN nn) = [.ix] := rfl
@[simp] theorem stores_ldIXAtNN (nn : Word) (s : State) : stores s (.ldIXAtNN nn) = [] := rfl
@[simp] theorem transfers_ldIXAtNN (nn : Word) : transfers (.ldIXAtNN nn) = false := rfl
@[simp] theorem exec_ldAtNNIX (nn : Word) (s : State) : exec (.ldAtNNIX nn) s = execLdAtNNIX nn s := rfl
@[simp] theorem touched_ldAtNNIX (nn : Word) : touched (.ldAtNNIX nn) = [.mem] := rfl
@[simp] theorem stores_ldAtNNIX (nn : Word) (s : State) : stores s (.ldAtNNIX nn) = [nn, nn + 1] := rfl
@[simp] theorem transfers_ldAtNNIX (nn : Word) : transfers (.ldAtNNIX nn) = false := rfl
@[simp] theorem exec_ldIYNN (nn : Word) (s : State) : exec (.ldIYNN nn) s = execLdIYNN nn s := rfl
@[simp] theorem touched_ldIYNN (nn : Word) : touched (.ldIYNN nn) = [.iy] := rfl
@[simp] theorem stores_ldIYNN (nn : Word) (s : State) : stores s (.ldIYNN nn) = [] := rfl
@[simp] theorem transfers_ldIYNN (nn : Word) : transfers (.ldIYNN nn) = false := rfl
@[simp] theorem exec_ldIYAtNN (nn : Word) (s : State) : exec (.ldIYAtNN nn) s = execLdIYAtNN nn s := rfl
@[simp] theorem touched_ldIYAtNN (nn : Word) : touched (.ldIYAtNN nn) = [.iy] := rfl
@[simp] theorem stores_ldIYAtNN (nn : Word) (s : State) : stores s (.ldIYAtNN nn) = [] := rfl
@[simp] theorem transfers_ldIYAtNN (nn : Word) : transfers (.ldIYAtNN nn) = false := rfl
@[simp] theorem exec_ldAtNNIY (nn : Word) (s : State) : exec (.ldAtNNIY nn) s = execLdAtNNIY nn s := rfl
@[simp] theorem touched_ldAtNNIY (nn : Word) : touched (.ldAtNNIY nn) = [.mem] := rfl
@[simp] theorem stores_ldAtNNIY (nn : Word) (s : State) : stores s (.ldAtNNIY nn) = [nn, nn + 1] := rfl
@[simp] theorem transfers_ldAtNNIY (nn : Word) : transfers (.ldAtNNIY nn) = false := rfl
@[simp] theorem exec_pushRR (q : PairAF) (s : State) : exec (.pushRR q) s = execPushRR q s := rfl
@[simp] theorem touched_pushRR (q : PairAF) : touched (.pushRR q) = [.sp, .mem] := rfl
@[simp] theorem stores_pushRR (q : PairAF) (s : State) : stores s (.pushRR q) = [s.sp - 1, s.sp - 2] := rfl
@[simp] theorem transfers_pushRR (q : PairAF) : transfers (.pushRR q) = false := rfl
@[simp] theorem exec_popRR (q : PairAF) (s : State) : exec (.popRR q) s = execPopRR q s := rfl
@[simp] theorem touched_popRR (q : PairAF) : touched (.popRR q) = .sp :: pairAFPlaces q := rfl
@[simp] theorem stores_popRR (q : PairAF) (s : State) : stores s (.popRR q) = [] := rfl
@[simp] theorem transfers_popRR (q : PairAF) : transfers (.popRR q) = false := rfl
@[simp] theorem exec_pushNN (nn : Word) (s : State) : exec (.pushNN nn) s = execPushNN nn s := rfl
@[simp] theorem touched_pushNN (nn : Word) : touched (.pushNN nn) = [.sp, .mem] := rfl
@[simp] theorem stores_pushNN (nn : Word) (s : State) : stores s (.pushNN nn) = [s.sp - 1, s.sp - 2] := rfl
@[simp] theorem transfers_pushNN (nn : Word) : transfers (.pushNN nn) = false := rfl
@[simp] theorem exec_addAR (r : Reg8) (s : State) : exec (.addAR r) s = execAddAR r s := rfl
@[simp] theorem touched_addAR (r : Reg8) : touched (.addAR r) = .a :: Place.flags := rfl
@[simp] theorem stores_addAR (r : Reg8) (s : State) : stores s (.addAR r) = [] := rfl
@[simp] theorem transfers_addAR (r : Reg8) : transfers (.addAR r) = false := rfl
@[simp] theorem exec_addAN (n : Byte) (s : State) : exec (.addAN n) s = execAddAN n s := rfl
@[simp] theorem touched_addAN (n : Byte) : touched (.addAN n) = .a :: Place.flags := rfl
@[simp] theorem stores_addAN (n : Byte) (s : State) : stores s (.addAN n) = [] := rfl
@[simp] theorem transfers_addAN (n : Byte) : transfers (.addAN n) = false := rfl
@[simp] theorem exec_addAAtIXd (d : Byte) (s : State) : exec (.addAAtIXd d) s = execAddAAtIXd d s := rfl
@[simp] theorem touched_addAAtIXd (d : Byte) : touched (.addAAtIXd d) = .a :: Place.flags := rfl
@[simp] theorem stores_addAAtIXd (d : Byte) (s : State) : stores s (.addAAtIXd d) = [] := rfl
@[simp] theorem transfers_addAAtIXd (d : Byte) : transfers (.addAAtIXd d) = false := rfl
@[simp] theorem exec_addAAtIYd (d : Byte) (s : State) : exec (.addAAtIYd d) s = execAddAAtIYd d s := rfl
@[simp] theorem touched_addAAtIYd (d : Byte) : touched (.addAAtIYd d) = .a :: Place.flags := rfl
@[simp] theorem stores_addAAtIYd (d : Byte) (s : State) : stores s (.addAAtIYd d) = [] := rfl
@[simp] theorem transfers_addAAtIYd (d : Byte) : transfers (.addAAtIYd d) = false := rfl
@[simp] theorem exec_adcAR (r : Reg8) (s : State) : exec (.adcAR r) s = execAdcAR r s := rfl
@[simp] theorem touched_adcAR (r : Reg8) : touched (.adcAR r) = .a :: Place.flags := rfl
@[simp] theorem stores_adcAR (r : Reg8) (s : State) : stores s (.adcAR r) = [] := rfl
@[simp] theorem transfers_adcAR (r : Reg8) : transfers (.adcAR r) = false := rfl
@[simp] theorem exec_adcAN (n : Byte) (s : State) : exec (.adcAN n) s = execAdcAN n s := rfl
@[simp] theorem touched_adcAN (n : Byte) : touched (.adcAN n) = .a :: Place.flags := rfl
@[simp] theorem stores_adcAN (n : Byte) (s : State) : stores s (.adcAN n) = [] := rfl
@[simp] theorem transfers_adcAN (n : Byte) : transfers (.adcAN n) = false := rfl
@[simp] theorem exec_adcAAtIXd (d : Byte) (s : State) : exec (.adcAAtIXd d) s = execAdcAAtIXd d s := rfl
@[simp] theorem touched_adcAAtIXd (d : Byte) : touched (.adcAAtIXd d) = .a :: Place.flags := rfl
@[simp] theorem stores_adcAAtIXd (d : Byte) (s : State) : stores s (.adcAAtIXd d) = [] := rfl
@[simp] theorem transfers_adcAAtIXd (d : Byte) : transfers (.adcAAtIXd d) = false := rfl
@[simp] theorem exec_adcAAtIYd (d : Byte) (s : State) : exec (.adcAAtIYd d) s = execAdcAAtIYd d s := rfl
@[simp] theorem touched_adcAAtIYd (d : Byte) : touched (.adcAAtIYd d) = .a :: Place.flags := rfl
@[simp] theorem stores_adcAAtIYd (d : Byte) (s : State) : stores s (.adcAAtIYd d) = [] := rfl
@[simp] theorem transfers_adcAAtIYd (d : Byte) : transfers (.adcAAtIYd d) = false := rfl
@[simp] theorem exec_subR (r : Reg8) (s : State) : exec (.subR r) s = execSubR r s := rfl
@[simp] theorem touched_subR (r : Reg8) : touched (.subR r) = .a :: Place.flags := rfl
@[simp] theorem stores_subR (r : Reg8) (s : State) : stores s (.subR r) = [] := rfl
@[simp] theorem transfers_subR (r : Reg8) : transfers (.subR r) = false := rfl
@[simp] theorem exec_subN (n : Byte) (s : State) : exec (.subN n) s = execSubN n s := rfl
@[simp] theorem touched_subN (n : Byte) : touched (.subN n) = .a :: Place.flags := rfl
@[simp] theorem stores_subN (n : Byte) (s : State) : stores s (.subN n) = [] := rfl
@[simp] theorem transfers_subN (n : Byte) : transfers (.subN n) = false := rfl
@[simp] theorem exec_subAtIXd (d : Byte) (s : State) : exec (.subAtIXd d) s = execSubAtIXd d s := rfl
@[simp] theorem touched_subAtIXd (d : Byte) : touched (.subAtIXd d) = .a :: Place.flags := rfl
@[simp] theorem stores_subAtIXd (d : Byte) (s : State) : stores s (.subAtIXd d) = [] := rfl
@[simp] theorem transfers_subAtIXd (d : Byte) : transfers (.subAtIXd d) = false := rfl
@[simp] theorem exec_subAtIYd (d : Byte) (s : State) : exec (.subAtIYd d) s = execSubAtIYd d s := rfl
@[simp] theorem touched_subAtIYd (d : Byte) : touched (.subAtIYd d) = .a :: Place.flags := rfl
@[simp] theorem stores_subAtIYd (d : Byte) (s : State) : stores s (.subAtIYd d) = [] := rfl
@[simp] theorem transfers_subAtIYd (d : Byte) : transfers (.subAtIYd d) = false := rfl
@[simp] theorem exec_sbcAR (r : Reg8) (s : State) : exec (.sbcAR r) s = execSbcAR r s := rfl
@[simp] theorem touched_sbcAR (r : Reg8) : touched (.sbcAR r) = .a :: Place.flags := rfl
@[simp] theorem stores_sbcAR (r : Reg8) (s : State) : stores s (.sbcAR r) = [] := rfl
@[simp] theorem transfers_sbcAR (r : Reg8) : transfers (.sbcAR r) = false := rfl
@[simp] theorem exec_sbcAN (n : Byte) (s : State) : exec (.sbcAN n) s = execSbcAN n s := rfl
@[simp] theorem touched_sbcAN (n : Byte) : touched (.sbcAN n) = .a :: Place.flags := rfl
@[simp] theorem stores_sbcAN (n : Byte) (s : State) : stores s (.sbcAN n) = [] := rfl
@[simp] theorem transfers_sbcAN (n : Byte) : transfers (.sbcAN n) = false := rfl
@[simp] theorem exec_sbcAAtIXd (d : Byte) (s : State) : exec (.sbcAAtIXd d) s = execSbcAAtIXd d s := rfl
@[simp] theorem touched_sbcAAtIXd (d : Byte) : touched (.sbcAAtIXd d) = .a :: Place.flags := rfl
@[simp] theorem stores_sbcAAtIXd (d : Byte) (s : State) : stores s (.sbcAAtIXd d) = [] := rfl
@[simp] theorem transfers_sbcAAtIXd (d : Byte) : transfers (.sbcAAtIXd d) = false := rfl
@[simp] theorem exec_sbcAAtIYd (d : Byte) (s : State) : exec (.sbcAAtIYd d) s = execSbcAAtIYd d s := rfl
@[simp] theorem touched_sbcAAtIYd (d : Byte) : touched (.sbcAAtIYd d) = .a :: Place.flags := rfl
@[simp] theorem stores_sbcAAtIYd (d : Byte) (s : State) : stores s (.sbcAAtIYd d) = [] := rfl
@[simp] theorem transfers_sbcAAtIYd (d : Byte) : transfers (.sbcAAtIYd d) = false := rfl
@[simp] theorem exec_andR (r : Reg8) (s : State) : exec (.andR r) s = execAndR r s := rfl
@[simp] theorem touched_andR (r : Reg8) : touched (.andR r) = .a :: Place.flags := rfl
@[simp] theorem stores_andR (r : Reg8) (s : State) : stores s (.andR r) = [] := rfl
@[simp] theorem transfers_andR (r : Reg8) : transfers (.andR r) = false := rfl
@[simp] theorem exec_andN (n : Byte) (s : State) : exec (.andN n) s = execAndN n s := rfl
@[simp] theorem touched_andN (n : Byte) : touched (.andN n) = .a :: Place.flags := rfl
@[simp] theorem stores_andN (n : Byte) (s : State) : stores s (.andN n) = [] := rfl
@[simp] theorem transfers_andN (n : Byte) : transfers (.andN n) = false := rfl
@[simp] theorem exec_andAtIXd (d : Byte) (s : State) : exec (.andAtIXd d) s = execAndAtIXd d s := rfl
@[simp] theorem touched_andAtIXd (d : Byte) : touched (.andAtIXd d) = .a :: Place.flags := rfl
@[simp] theorem stores_andAtIXd (d : Byte) (s : State) : stores s (.andAtIXd d) = [] := rfl
@[simp] theorem transfers_andAtIXd (d : Byte) : transfers (.andAtIXd d) = false := rfl
@[simp] theorem exec_andAtIYd (d : Byte) (s : State) : exec (.andAtIYd d) s = execAndAtIYd d s := rfl
@[simp] theorem touched_andAtIYd (d : Byte) : touched (.andAtIYd d) = .a :: Place.flags := rfl
@[simp] theorem stores_andAtIYd (d : Byte) (s : State) : stores s (.andAtIYd d) = [] := rfl
@[simp] theorem transfers_andAtIYd (d : Byte) : transfers (.andAtIYd d) = false := rfl
@[simp] theorem exec_xorR (r : Reg8) (s : State) : exec (.xorR r) s = execXorR r s := rfl
@[simp] theorem touched_xorR (r : Reg8) : touched (.xorR r) = .a :: Place.flags := rfl
@[simp] theorem stores_xorR (r : Reg8) (s : State) : stores s (.xorR r) = [] := rfl
@[simp] theorem transfers_xorR (r : Reg8) : transfers (.xorR r) = false := rfl
@[simp] theorem exec_xorN (n : Byte) (s : State) : exec (.xorN n) s = execXorN n s := rfl
@[simp] theorem touched_xorN (n : Byte) : touched (.xorN n) = .a :: Place.flags := rfl
@[simp] theorem stores_xorN (n : Byte) (s : State) : stores s (.xorN n) = [] := rfl
@[simp] theorem transfers_xorN (n : Byte) : transfers (.xorN n) = false := rfl
@[simp] theorem exec_xorAtIXd (d : Byte) (s : State) : exec (.xorAtIXd d) s = execXorAtIXd d s := rfl
@[simp] theorem touched_xorAtIXd (d : Byte) : touched (.xorAtIXd d) = .a :: Place.flags := rfl
@[simp] theorem stores_xorAtIXd (d : Byte) (s : State) : stores s (.xorAtIXd d) = [] := rfl
@[simp] theorem transfers_xorAtIXd (d : Byte) : transfers (.xorAtIXd d) = false := rfl
@[simp] theorem exec_xorAtIYd (d : Byte) (s : State) : exec (.xorAtIYd d) s = execXorAtIYd d s := rfl
@[simp] theorem touched_xorAtIYd (d : Byte) : touched (.xorAtIYd d) = .a :: Place.flags := rfl
@[simp] theorem stores_xorAtIYd (d : Byte) (s : State) : stores s (.xorAtIYd d) = [] := rfl
@[simp] theorem transfers_xorAtIYd (d : Byte) : transfers (.xorAtIYd d) = false := rfl
@[simp] theorem exec_orR (r : Reg8) (s : State) : exec (.orR r) s = execOrR r s := rfl
@[simp] theorem touched_orR (r : Reg8) : touched (.orR r) = .a :: Place.flags := rfl
@[simp] theorem stores_orR (r : Reg8) (s : State) : stores s (.orR r) = [] := rfl
@[simp] theorem transfers_orR (r : Reg8) : transfers (.orR r) = false := rfl
@[simp] theorem exec_orN (n : Byte) (s : State) : exec (.orN n) s = execOrN n s := rfl
@[simp] theorem touched_orN (n : Byte) : touched (.orN n) = .a :: Place.flags := rfl
@[simp] theorem stores_orN (n : Byte) (s : State) : stores s (.orN n) = [] := rfl
@[simp] theorem transfers_orN (n : Byte) : transfers (.orN n) = false := rfl
@[simp] theorem exec_orAtIXd (d : Byte) (s : State) : exec (.orAtIXd d) s = execOrAtIXd d s := rfl
@[simp] theorem touched_orAtIXd (d : Byte) : touched (.orAtIXd d) = .a :: Place.flags := rfl
@[simp] theorem stores_orAtIXd (d : Byte) (s : State) : stores s (.orAtIXd d) = [] := rfl
@[simp] theorem transfers_orAtIXd (d : Byte) : transfers (.orAtIXd d) = false := rfl
@[simp] theorem exec_orAtIYd (d : Byte) (s : State) : exec (.orAtIYd d) s = execOrAtIYd d s := rfl
@[simp] theorem touched_orAtIYd (d : Byte) : touched (.orAtIYd d) = .a :: Place.flags := rfl
@[simp] theorem stores_orAtIYd (d : Byte) (s : State) : stores s (.orAtIYd d) = [] := rfl
@[simp] theorem transfers_orAtIYd (d : Byte) : transfers (.orAtIYd d) = false := rfl
@[simp] theorem exec_cpR (r : Reg8) (s : State) : exec (.cpR r) s = execCpR r s := rfl
@[simp] theorem touched_cpR (r : Reg8) : touched (.cpR r) = Place.flags := rfl
@[simp] theorem stores_cpR (r : Reg8) (s : State) : stores s (.cpR r) = [] := rfl
@[simp] theorem transfers_cpR (r : Reg8) : transfers (.cpR r) = false := rfl
@[simp] theorem exec_cpN (n : Byte) (s : State) : exec (.cpN n) s = execCpN n s := rfl
@[simp] theorem touched_cpN (n : Byte) : touched (.cpN n) = Place.flags := rfl
@[simp] theorem stores_cpN (n : Byte) (s : State) : stores s (.cpN n) = [] := rfl
@[simp] theorem transfers_cpN (n : Byte) : transfers (.cpN n) = false := rfl
@[simp] theorem exec_cpAtIXd (d : Byte) (s : State) : exec (.cpAtIXd d) s = execCpAtIXd d s := rfl
@[simp] theorem touched_cpAtIXd (d : Byte) : touched (.cpAtIXd d) = Place.flags := rfl
@[simp] theorem stores_cpAtIXd (d : Byte) (s : State) : stores s (.cpAtIXd d) = [] := rfl
@[simp] theorem transfers_cpAtIXd (d : Byte) : transfers (.cpAtIXd d) = false := rfl
@[simp] theorem exec_cpAtIYd (d : Byte) (s : State) : exec (.cpAtIYd d) s = execCpAtIYd d s := rfl
@[simp] theorem touched_cpAtIYd (d : Byte) : touched (.cpAtIYd d) = Place.flags := rfl
@[simp] theorem stores_cpAtIYd (d : Byte) (s : State) : stores s (.cpAtIYd d) = [] := rfl
@[simp] theorem transfers_cpAtIYd (d : Byte) : transfers (.cpAtIYd d) = false := rfl
@[simp] theorem exec_incR (t : Reg8) (s : State) : exec (.incR t) s = execIncR t s := rfl
@[simp] theorem touched_incR (t : Reg8) : touched (.incR t) = regPlace t :: Place.flagsButCF := rfl
@[simp] theorem stores_incR (t : Reg8) (s : State) : stores s (.incR t) = [] := rfl
@[simp] theorem transfers_incR (t : Reg8) : transfers (.incR t) = false := rfl
@[simp] theorem exec_incAtIXd (d : Byte) (s : State) : exec (.incAtIXd d) s = execIncAtIXd d s := rfl
@[simp] theorem touched_incAtIXd (d : Byte) : touched (.incAtIXd d) = .mem :: Place.flagsButCF := rfl
@[simp] theorem stores_incAtIXd (d : Byte) (s : State) : stores s (.incAtIXd d) = [s.indexed .ix d] := rfl
@[simp] theorem transfers_incAtIXd (d : Byte) : transfers (.incAtIXd d) = false := rfl
@[simp] theorem exec_incAtIYd (d : Byte) (s : State) : exec (.incAtIYd d) s = execIncAtIYd d s := rfl
@[simp] theorem touched_incAtIYd (d : Byte) : touched (.incAtIYd d) = .mem :: Place.flagsButCF := rfl
@[simp] theorem stores_incAtIYd (d : Byte) (s : State) : stores s (.incAtIYd d) = [s.indexed .iy d] := rfl
@[simp] theorem transfers_incAtIYd (d : Byte) : transfers (.incAtIYd d) = false := rfl
@[simp] theorem exec_decR (t : Reg8) (s : State) : exec (.decR t) s = execDecR t s := rfl
@[simp] theorem touched_decR (t : Reg8) : touched (.decR t) = regPlace t :: Place.flagsButCF := rfl
@[simp] theorem stores_decR (t : Reg8) (s : State) : stores s (.decR t) = [] := rfl
@[simp] theorem transfers_decR (t : Reg8) : transfers (.decR t) = false := rfl
@[simp] theorem exec_decAtIXd (d : Byte) (s : State) : exec (.decAtIXd d) s = execDecAtIXd d s := rfl
@[simp] theorem touched_decAtIXd (d : Byte) : touched (.decAtIXd d) = .mem :: Place.flagsButCF := rfl
@[simp] theorem stores_decAtIXd (d : Byte) (s : State) : stores s (.decAtIXd d) = [s.indexed .ix d] := rfl
@[simp] theorem transfers_decAtIXd (d : Byte) : transfers (.decAtIXd d) = false := rfl
@[simp] theorem exec_decAtIYd (d : Byte) (s : State) : exec (.decAtIYd d) s = execDecAtIYd d s := rfl
@[simp] theorem touched_decAtIYd (d : Byte) : touched (.decAtIYd d) = .mem :: Place.flagsButCF := rfl
@[simp] theorem stores_decAtIYd (d : Byte) (s : State) : stores s (.decAtIYd d) = [s.indexed .iy d] := rfl
@[simp] theorem transfers_decAtIYd (d : Byte) : transfers (.decAtIYd d) = false := rfl
@[simp] theorem exec_testN (n : Byte) (s : State) : exec (.testN n) s = execTestN n s := rfl
@[simp] theorem touched_testN (n : Byte) : touched (.testN n) = Place.flags := rfl
@[simp] theorem stores_testN (n : Byte) (s : State) : stores s (.testN n) = [] := rfl
@[simp] theorem transfers_testN (n : Byte) : transfers (.testN n) = false := rfl
@[simp] theorem exec_addHLRR (q : Pair) (s : State) : exec (.addHLRR q) s = execAddHLRR q s := rfl
@[simp] theorem touched_addHLRR (q : Pair) : touched (.addHLRR q) = [.h, .l, .f5, .hf, .f3, .nf, .cf] := rfl
@[simp] theorem stores_addHLRR (q : Pair) (s : State) : stores s (.addHLRR q) = [] := rfl
@[simp] theorem transfers_addHLRR (q : Pair) : transfers (.addHLRR q) = false := rfl
@[simp] theorem exec_addIXRR (q : PairXY) (s : State) : exec (.addIXRR q) s = execAddIXRR q s := rfl
@[simp] theorem touched_addIXRR (q : PairXY) : touched (.addIXRR q) = [.ix, .f5, .hf, .f3, .nf, .cf] := rfl
@[simp] theorem stores_addIXRR (q : PairXY) (s : State) : stores s (.addIXRR q) = [] := rfl
@[simp] theorem transfers_addIXRR (q : PairXY) : transfers (.addIXRR q) = false := rfl
@[simp] theorem exec_addIYRR (q : PairXY) (s : State) : exec (.addIYRR q) s = execAddIYRR q s := rfl
@[simp] theorem touched_addIYRR (q : PairXY) : touched (.addIYRR q) = [.iy, .f5, .hf, .f3, .nf, .cf] := rfl
@[simp] theorem stores_addIYRR (q : PairXY) (s : State) : stores s (.addIYRR q) = [] := rfl
@[simp] theorem transfers_addIYRR (q : PairXY) : transfers (.addIYRR q) = false := rfl
@[simp] theorem exec_adcHLRR (q : Pair) (s : State) : exec (.adcHLRR q) s = execAdcHLRR q s := rfl
@[simp] theorem touched_adcHLRR (q : Pair) : touched (.adcHLRR q) = .h :: .l :: Place.flags := rfl
@[simp] theorem stores_adcHLRR (q : Pair) (s : State) : stores s (.adcHLRR q) = [] := rfl
@[simp] theorem transfers_adcHLRR (q : Pair) : transfers (.adcHLRR q) = false := rfl
@[simp] theorem exec_sbcHLRR (q : Pair) (s : State) : exec (.sbcHLRR q) s = execSbcHLRR q s := rfl
@[simp] theorem touched_sbcHLRR (q : Pair) : touched (.sbcHLRR q) = .h :: .l :: Place.flags := rfl
@[simp] theorem stores_sbcHLRR (q : Pair) (s : State) : stores s (.sbcHLRR q) = [] := rfl
@[simp] theorem transfers_sbcHLRR (q : Pair) : transfers (.sbcHLRR q) = false := rfl
@[simp] theorem exec_incRR (q : Pair) (s : State) : exec (.incRR q) s = execIncRR q s := rfl
@[simp] theorem touched_incRR (q : Pair) : touched (.incRR q) = pairPlaces q := rfl
@[simp] theorem stores_incRR (q : Pair) (s : State) : stores s (.incRR q) = [] := rfl
@[simp] theorem transfers_incRR (q : Pair) : transfers (.incRR q) = false := rfl
@[simp] theorem exec_decRR (q : Pair) (s : State) : exec (.decRR q) s = execDecRR q s := rfl
@[simp] theorem touched_decRR (q : Pair) : touched (.decRR q) = pairPlaces q := rfl
@[simp] theorem stores_decRR (q : Pair) (s : State) : stores s (.decRR q) = [] := rfl
@[simp] theorem transfers_decRR (q : Pair) : transfers (.decRR q) = false := rfl
@[simp] theorem exec_addHLNN (nn : Word) (s : State) : exec (.addHLNN nn) s = execAddHLNN nn s := rfl
@[simp] theorem touched_addHLNN (nn : Word) : touched (.addHLNN nn) = [.h, .l] := rfl
@[simp] theorem stores_addHLNN (nn : Word) (s : State) : stores s (.addHLNN nn) = [] := rfl
@[simp] theorem transfers_addHLNN (nn : Word) : transfers (.addHLNN nn) = false := rfl
@[simp] theorem exec_addDENN (nn : Word) (s : State) : exec (.addDENN nn) s = execAddDENN nn s := rfl
@[simp] theorem touched_addDENN (nn : Word) : touched (.addDENN nn) = [.d, .e] := rfl
@[simp] theorem stores_addDENN (nn : Word) (s : State) : stores s (.addDENN nn) = [] := rfl
@[simp] theorem transfers_addDENN (nn : Word) : transfers (.addDENN nn) = false := rfl
@[simp] theorem exec_addBCNN (nn : Word) (s : State) : exec (.addBCNN nn) s = execAddBCNN nn s := rfl
@[simp] theorem touched_addBCNN (nn : Word) : touched (.addBCNN nn) = [.b, .c] := rfl
@[simp] theorem stores_addBCNN (nn : Word) (s : State) : stores s (.addBCNN nn) = [] := rfl
@[simp] theorem transfers_addBCNN (nn : Word) : transfers (.addBCNN nn) = false := rfl
@[simp] theorem exec_rlcR (r : Reg8) (s : State) : exec (.rlcR r) s = execRlcR r s := rfl
@[simp] theorem touched_rlcR (r : Reg8) : touched (.rlcR r) = regPlace r :: Place.flags := rfl
@[simp] theorem stores_rlcR (r : Reg8) (s : State) : stores s (.rlcR r) = [] := rfl
@[simp] theorem transfers_rlcR (r : Reg8) : transfers (.rlcR r) = false := rfl
@[simp] theorem exec_rlcAtIXd (d : Byte) (s : State) : exec (.rlcAtIXd d) s = execRlcAtIXd d s := rfl
@[simp] theorem touched_rlcAtIXd (d : Byte) : touched (.rlcAtIXd d) = .mem :: Place.flags := rfl
@[simp] theorem stores_rlcAtIXd (d : Byte) (s : State) : stores s (.rlcAtIXd d) = [s.indexed .ix d] := rfl
@[simp] theorem transfers_rlcAtIXd (d : Byte) : transfers (.rlcAtIXd d) = false := rfl
@[simp] theorem exec_rlcAtIXdR (d : Byte) (r : Reg8) (s : State) :
    exec (.rlcAtIXdR d r) s = execRlcAtIXdR d r s := rfl
@[simp] theorem touched_rlcAtIXdR (d : Byte) (r : Reg8) :
    touched (.rlcAtIXdR d r) = regPlace r :: .mem :: Place.flags := rfl
@[simp] theorem stores_rlcAtIXdR (d : Byte) (r : Reg8) (s : State) :
    stores s (.rlcAtIXdR d r) = [s.indexed .ix d] := rfl
@[simp] theorem transfers_rlcAtIXdR (d : Byte) (r : Reg8) : transfers (.rlcAtIXdR d r) = false := rfl
@[simp] theorem exec_rlcAtIYd (d : Byte) (s : State) : exec (.rlcAtIYd d) s = execRlcAtIYd d s := rfl
@[simp] theorem touched_rlcAtIYd (d : Byte) : touched (.rlcAtIYd d) = .mem :: Place.flags := rfl
@[simp] theorem stores_rlcAtIYd (d : Byte) (s : State) : stores s (.rlcAtIYd d) = [s.indexed .iy d] := rfl
@[simp] theorem transfers_rlcAtIYd (d : Byte) : transfers (.rlcAtIYd d) = false := rfl
@[simp] theorem exec_rlcAtIYdR (d : Byte) (r : Reg8) (s : State) :
    exec (.rlcAtIYdR d r) s = execRlcAtIYdR d r s := rfl
@[simp] theorem touched_rlcAtIYdR (d : Byte) (r : Reg8) :
    touched (.rlcAtIYdR d r) = regPlace r :: .mem :: Place.flags := rfl
@[simp] theorem stores_rlcAtIYdR (d : Byte) (r : Reg8) (s : State) :
    stores s (.rlcAtIYdR d r) = [s.indexed .iy d] := rfl
@[simp] theorem transfers_rlcAtIYdR (d : Byte) (r : Reg8) : transfers (.rlcAtIYdR d r) = false := rfl
@[simp] theorem exec_rrcR (r : Reg8) (s : State) : exec (.rrcR r) s = execRrcR r s := rfl
@[simp] theorem touched_rrcR (r : Reg8) : touched (.rrcR r) = regPlace r :: Place.flags := rfl
@[simp] theorem stores_rrcR (r : Reg8) (s : State) : stores s (.rrcR r) = [] := rfl
@[simp] theorem transfers_rrcR (r : Reg8) : transfers (.rrcR r) = false := rfl
@[simp] theorem exec_rrcAtIXd (d : Byte) (s : State) : exec (.rrcAtIXd d) s = execRrcAtIXd d s := rfl
@[simp] theorem touched_rrcAtIXd (d : Byte) : touched (.rrcAtIXd d) = .mem :: Place.flags := rfl
@[simp] theorem stores_rrcAtIXd (d : Byte) (s : State) : stores s (.rrcAtIXd d) = [s.indexed .ix d] := rfl
@[simp] theorem transfers_rrcAtIXd (d : Byte) : transfers (.rrcAtIXd d) = false := rfl
@[simp] theorem exec_rrcAtIXdR (d : Byte) (r : Reg8) (s : State) :
    exec (.rrcAtIXdR d r) s = execRrcAtIXdR d r s := rfl
@[simp] theorem touched_rrcAtIXdR (d : Byte) (r : Reg8) :
    touched (.rrcAtIXdR d r) = regPlace r :: .mem :: Place.flags := rfl
@[simp] theorem stores_rrcAtIXdR (d : Byte) (r : Reg8) (s : State) :
    stores s (.rrcAtIXdR d r) = [s.indexed .ix d] := rfl
@[simp] theorem transfers_rrcAtIXdR (d : Byte) (r : Reg8) : transfers (.rrcAtIXdR d r) = false := rfl
@[simp] theorem exec_rrcAtIYd (d : Byte) (s : State) : exec (.rrcAtIYd d) s = execRrcAtIYd d s := rfl
@[simp] theorem touched_rrcAtIYd (d : Byte) : touched (.rrcAtIYd d) = .mem :: Place.flags := rfl
@[simp] theorem stores_rrcAtIYd (d : Byte) (s : State) : stores s (.rrcAtIYd d) = [s.indexed .iy d] := rfl
@[simp] theorem transfers_rrcAtIYd (d : Byte) : transfers (.rrcAtIYd d) = false := rfl
@[simp] theorem exec_rrcAtIYdR (d : Byte) (r : Reg8) (s : State) :
    exec (.rrcAtIYdR d r) s = execRrcAtIYdR d r s := rfl
@[simp] theorem touched_rrcAtIYdR (d : Byte) (r : Reg8) :
    touched (.rrcAtIYdR d r) = regPlace r :: .mem :: Place.flags := rfl
@[simp] theorem stores_rrcAtIYdR (d : Byte) (r : Reg8) (s : State) :
    stores s (.rrcAtIYdR d r) = [s.indexed .iy d] := rfl
@[simp] theorem transfers_rrcAtIYdR (d : Byte) (r : Reg8) : transfers (.rrcAtIYdR d r) = false := rfl
@[simp] theorem exec_rlR (r : Reg8) (s : State) : exec (.rlR r) s = execRlR r s := rfl
@[simp] theorem touched_rlR (r : Reg8) : touched (.rlR r) = regPlace r :: Place.flags := rfl
@[simp] theorem stores_rlR (r : Reg8) (s : State) : stores s (.rlR r) = [] := rfl
@[simp] theorem transfers_rlR (r : Reg8) : transfers (.rlR r) = false := rfl
@[simp] theorem exec_rlAtIXd (d : Byte) (s : State) : exec (.rlAtIXd d) s = execRlAtIXd d s := rfl
@[simp] theorem touched_rlAtIXd (d : Byte) : touched (.rlAtIXd d) = .mem :: Place.flags := rfl
@[simp] theorem stores_rlAtIXd (d : Byte) (s : State) : stores s (.rlAtIXd d) = [s.indexed .ix d] := rfl
@[simp] theorem transfers_rlAtIXd (d : Byte) : transfers (.rlAtIXd d) = false := rfl
@[simp] theorem exec_rlAtIXdR (d : Byte) (r : Reg8) (s : State) : exec (.rlAtIXdR d r) s = execRlAtIXdR d r s := rfl
@[simp] theorem touched_rlAtIXdR (d : Byte) (r : Reg8) :
    touched (.rlAtIXdR d r) = regPlace r :: .mem :: Place.flags := rfl
@[simp] theorem stores_rlAtIXdR (d : Byte) (r : Reg8) (s : State) :
    stores s (.rlAtIXdR d r) = [s.indexed .ix d] := rfl
@[simp] theorem transfers_rlAtIXdR (d : Byte) (r : Reg8) : transfers (.rlAtIXdR d r) = false := rfl
@[simp] theorem exec_rlAtIYd (d : Byte) (s : State) : exec (.rlAtIYd d) s = execRlAtIYd d s := rfl
@[simp] theorem touched_rlAtIYd (d : Byte) : touched (.rlAtIYd d) = .mem :: Place.flags := rfl
@[simp] theorem stores_rlAtIYd (d : Byte) (s : State) : stores s (.rlAtIYd d) = [s.indexed .iy d] := rfl
@[simp] theorem transfers_rlAtIYd (d : Byte) : transfers (.rlAtIYd d) = false := rfl
@[simp] theorem exec_rlAtIYdR (d : Byte) (r : Reg8) (s : State) : exec (.rlAtIYdR d r) s = execRlAtIYdR d r s := rfl
@[simp] theorem touched_rlAtIYdR (d : Byte) (r : Reg8) :
    touched (.rlAtIYdR d r) = regPlace r :: .mem :: Place.flags := rfl
@[simp] theorem stores_rlAtIYdR (d : Byte) (r : Reg8) (s : State) :
    stores s (.rlAtIYdR d r) = [s.indexed .iy d] := rfl
@[simp] theorem transfers_rlAtIYdR (d : Byte) (r : Reg8) : transfers (.rlAtIYdR d r) = false := rfl
@[simp] theorem exec_rrR (r : Reg8) (s : State) : exec (.rrR r) s = execRrR r s := rfl
@[simp] theorem touched_rrR (r : Reg8) : touched (.rrR r) = regPlace r :: Place.flags := rfl
@[simp] theorem stores_rrR (r : Reg8) (s : State) : stores s (.rrR r) = [] := rfl
@[simp] theorem transfers_rrR (r : Reg8) : transfers (.rrR r) = false := rfl
@[simp] theorem exec_rrAtIXd (d : Byte) (s : State) : exec (.rrAtIXd d) s = execRrAtIXd d s := rfl
@[simp] theorem touched_rrAtIXd (d : Byte) : touched (.rrAtIXd d) = .mem :: Place.flags := rfl
@[simp] theorem stores_rrAtIXd (d : Byte) (s : State) : stores s (.rrAtIXd d) = [s.indexed .ix d] := rfl
@[simp] theorem transfers_rrAtIXd (d : Byte) : transfers (.rrAtIXd d) = false := rfl
@[simp] theorem exec_rrAtIXdR (d : Byte) (r : Reg8) (s : State) : exec (.rrAtIXdR d r) s = execRrAtIXdR d r s := rfl
@[simp] theorem touched_rrAtIXdR (d : Byte) (r : Reg8) :
    touched (.rrAtIXdR d r) = regPlace r :: .mem :: Place.flags := rfl
@[simp] theorem stores_rrAtIXdR (d : Byte) (r : Reg8) (s : State) :
    stores s (.rrAtIXdR d r) = [s.indexed .ix d] := rfl
@[simp] theorem transfers_rrAtIXdR (d : Byte) (r : Reg8) : transfers (.rrAtIXdR d r) = false := rfl
@[simp] theorem exec_rrAtIYd (d : Byte) (s : State) : exec (.rrAtIYd d) s = execRrAtIYd d s := rfl
@[simp] theorem touched_rrAtIYd (d : Byte) : touched (.rrAtIYd d) = .mem :: Place.flags := rfl
@[simp] theorem stores_rrAtIYd (d : Byte) (s : State) : stores s (.rrAtIYd d) = [s.indexed .iy d] := rfl
@[simp] theorem transfers_rrAtIYd (d : Byte) : transfers (.rrAtIYd d) = false := rfl
@[simp] theorem exec_rrAtIYdR (d : Byte) (r : Reg8) (s : State) : exec (.rrAtIYdR d r) s = execRrAtIYdR d r s := rfl
@[simp] theorem touched_rrAtIYdR (d : Byte) (r : Reg8) :
    touched (.rrAtIYdR d r) = regPlace r :: .mem :: Place.flags := rfl
@[simp] theorem stores_rrAtIYdR (d : Byte) (r : Reg8) (s : State) :
    stores s (.rrAtIYdR d r) = [s.indexed .iy d] := rfl
@[simp] theorem transfers_rrAtIYdR (d : Byte) (r : Reg8) : transfers (.rrAtIYdR d r) = false := rfl
@[simp] theorem exec_slaR (r : Reg8) (s : State) : exec (.slaR r) s = execSlaR r s := rfl
@[simp] theorem touched_slaR (r : Reg8) : touched (.slaR r) = regPlace r :: Place.flags := rfl
@[simp] theorem stores_slaR (r : Reg8) (s : State) : stores s (.slaR r) = [] := rfl
@[simp] theorem transfers_slaR (r : Reg8) : transfers (.slaR r) = false := rfl
@[simp] theorem exec_slaAtIXd (d : Byte) (s : State) : exec (.slaAtIXd d) s = execSlaAtIXd d s := rfl
@[simp] theorem touched_slaAtIXd (d : Byte) : touched (.slaAtIXd d) = .mem :: Place.flags := rfl
@[simp] theorem stores_slaAtIXd (d : Byte) (s : State) : stores s (.slaAtIXd d) = [s.indexed .ix d] := rfl
@[simp] theorem transfers_slaAtIXd (d : Byte) : transfers (.slaAtIXd d) = false := rfl
@[simp] theorem exec_slaAtIXdR (d : Byte) (r : Reg8) (s : State) :
    exec (.slaAtIXdR d r) s = execSlaAtIXdR d r s := rfl
@[simp] theorem touched_slaAtIXdR (d : Byte) (r : Reg8) :
    touched (.slaAtIXdR d r) = regPlace r :: .mem :: Place.flags := rfl
@[simp] theorem stores_slaAtIXdR (d : Byte) (r : Reg8) (s : State) :
    stores s (.slaAtIXdR d r) = [s.indexed .ix d] := rfl
@[simp] theorem transfers_slaAtIXdR (d : Byte) (r : Reg8) : transfers (.slaAtIXdR d r) = false := rfl
@[simp] theorem exec_slaAtIYd (d : Byte) (s : State) : exec (.slaAtIYd d) s = execSlaAtIYd d s := rfl
@[simp] theorem touched_slaAtIYd (d : Byte) : touched (.slaAtIYd d) = .mem :: Place.flags := rfl
@[simp] theorem stores_slaAtIYd (d : Byte) (s : State) : stores s (.slaAtIYd d) = [s.indexed .iy d] := rfl
@[simp] theorem transfers_slaAtIYd (d : Byte) : transfers (.slaAtIYd d) = false := rfl
@[simp] theorem exec_slaAtIYdR (d : Byte) (r : Reg8) (s : State) :
    exec (.slaAtIYdR d r) s = execSlaAtIYdR d r s := rfl
@[simp] theorem touched_slaAtIYdR (d : Byte) (r : Reg8) :
    touched (.slaAtIYdR d r) = regPlace r :: .mem :: Place.flags := rfl
@[simp] theorem stores_slaAtIYdR (d : Byte) (r : Reg8) (s : State) :
    stores s (.slaAtIYdR d r) = [s.indexed .iy d] := rfl
@[simp] theorem transfers_slaAtIYdR (d : Byte) (r : Reg8) : transfers (.slaAtIYdR d r) = false := rfl
@[simp] theorem exec_sraR (r : Reg8) (s : State) : exec (.sraR r) s = execSraR r s := rfl
@[simp] theorem touched_sraR (r : Reg8) : touched (.sraR r) = regPlace r :: Place.flags := rfl
@[simp] theorem stores_sraR (r : Reg8) (s : State) : stores s (.sraR r) = [] := rfl
@[simp] theorem transfers_sraR (r : Reg8) : transfers (.sraR r) = false := rfl
@[simp] theorem exec_sraAtIXd (d : Byte) (s : State) : exec (.sraAtIXd d) s = execSraAtIXd d s := rfl
@[simp] theorem touched_sraAtIXd (d : Byte) : touched (.sraAtIXd d) = .mem :: Place.flags := rfl
@[simp] theorem stores_sraAtIXd (d : Byte) (s : State) : stores s (.sraAtIXd d) = [s.indexed .ix d] := rfl
@[simp] theorem transfers_sraAtIXd (d : Byte) : transfers (.sraAtIXd d) = false := rfl
@[simp] theorem exec_sraAtIXdR (d : Byte) (r : Reg8) (s : State) :
    exec (.sraAtIXdR d r) s = execSraAtIXdR d r s := rfl
@[simp] theorem touched_sraAtIXdR (d : Byte) (r : Reg8) :
    touched (.sraAtIXdR d r) = regPlace r :: .mem :: Place.flags := rfl
@[simp] theorem stores_sraAtIXdR (d : Byte) (r : Reg8) (s : State) :
    stores s (.sraAtIXdR d r) = [s.indexed .ix d] := rfl
@[simp] theorem transfers_sraAtIXdR (d : Byte) (r : Reg8) : transfers (.sraAtIXdR d r) = false := rfl
@[simp] theorem exec_sraAtIYd (d : Byte) (s : State) : exec (.sraAtIYd d) s = execSraAtIYd d s := rfl
@[simp] theorem touched_sraAtIYd (d : Byte) : touched (.sraAtIYd d) = .mem :: Place.flags := rfl
@[simp] theorem stores_sraAtIYd (d : Byte) (s : State) : stores s (.sraAtIYd d) = [s.indexed .iy d] := rfl
@[simp] theorem transfers_sraAtIYd (d : Byte) : transfers (.sraAtIYd d) = false := rfl
@[simp] theorem exec_sraAtIYdR (d : Byte) (r : Reg8) (s : State) :
    exec (.sraAtIYdR d r) s = execSraAtIYdR d r s := rfl
@[simp] theorem touched_sraAtIYdR (d : Byte) (r : Reg8) :
    touched (.sraAtIYdR d r) = regPlace r :: .mem :: Place.flags := rfl
@[simp] theorem stores_sraAtIYdR (d : Byte) (r : Reg8) (s : State) :
    stores s (.sraAtIYdR d r) = [s.indexed .iy d] := rfl
@[simp] theorem transfers_sraAtIYdR (d : Byte) (r : Reg8) : transfers (.sraAtIYdR d r) = false := rfl
@[simp] theorem exec_sliR (r : Reg8) (s : State) : exec (.sliR r) s = execSliR r s := rfl
@[simp] theorem touched_sliR (r : Reg8) : touched (.sliR r) = regPlace r :: Place.flags := rfl
@[simp] theorem stores_sliR (r : Reg8) (s : State) : stores s (.sliR r) = [] := rfl
@[simp] theorem transfers_sliR (r : Reg8) : transfers (.sliR r) = false := rfl
@[simp] theorem exec_sliAtIXd (d : Byte) (s : State) : exec (.sliAtIXd d) s = execSliAtIXd d s := rfl
@[simp] theorem touched_sliAtIXd (d : Byte) : touched (.sliAtIXd d) = .mem :: Place.flags := rfl
@[simp] theorem stores_sliAtIXd (d : Byte) (s : State) : stores s (.sliAtIXd d) = [s.indexed .ix d] := rfl
@[simp] theorem transfers_sliAtIXd (d : Byte) : transfers (.sliAtIXd d) = false := rfl
@[simp] theorem exec_sliAtIXdR (d : Byte) (r : Reg8) (s : State) :
    exec (.sliAtIXdR d r) s = execSliAtIXdR d r s := rfl
@[simp] theorem touched_sliAtIXdR (d : Byte) (r : Reg8) :
    touched (.sliAtIXdR d r) = regPlace r :: .mem :: Place.flags := rfl
@[simp] theorem stores_sliAtIXdR (d : Byte) (r : Reg8) (s : State) :
    stores s (.sliAtIXdR d r) = [s.indexed .ix d] := rfl
@[simp] theorem transfers_sliAtIXdR (d : Byte) (r : Reg8) : transfers (.sliAtIXdR d r) = false := rfl
@[simp] theorem exec_sliAtIYd (d : Byte) (s : State) : exec (.sliAtIYd d) s = execSliAtIYd d s := rfl
@[simp] theorem touched_sliAtIYd (d : Byte) : touched (.sliAtIYd d) = .mem :: Place.flags := rfl
@[simp] theorem stores_sliAtIYd (d : Byte) (s : State) : stores s (.sliAtIYd d) = [s.indexed .iy d] := rfl
@[simp] theorem transfers_sliAtIYd (d : Byte) : transfers (.sliAtIYd d) = false := rfl
@[simp] theorem exec_sliAtIYdR (d : Byte) (r : Reg8) (s : State) :
    exec (.sliAtIYdR d r) s = execSliAtIYdR d r s := rfl
@[simp] theorem touched_sliAtIYdR (d : Byte) (r : Reg8) :
    touched (.sliAtIYdR d r) = regPlace r :: .mem :: Place.flags := rfl
@[simp] theorem stores_sliAtIYdR (d : Byte) (r : Reg8) (s : State) :
    stores s (.sliAtIYdR d r) = [s.indexed .iy d] := rfl
@[simp] theorem transfers_sliAtIYdR (d : Byte) (r : Reg8) : transfers (.sliAtIYdR d r) = false := rfl
@[simp] theorem exec_srlR (r : Reg8) (s : State) : exec (.srlR r) s = execSrlR r s := rfl
@[simp] theorem touched_srlR (r : Reg8) : touched (.srlR r) = regPlace r :: Place.flags := rfl
@[simp] theorem stores_srlR (r : Reg8) (s : State) : stores s (.srlR r) = [] := rfl
@[simp] theorem transfers_srlR (r : Reg8) : transfers (.srlR r) = false := rfl
@[simp] theorem exec_srlAtIXd (d : Byte) (s : State) : exec (.srlAtIXd d) s = execSrlAtIXd d s := rfl
@[simp] theorem touched_srlAtIXd (d : Byte) : touched (.srlAtIXd d) = .mem :: Place.flags := rfl
@[simp] theorem stores_srlAtIXd (d : Byte) (s : State) : stores s (.srlAtIXd d) = [s.indexed .ix d] := rfl
@[simp] theorem transfers_srlAtIXd (d : Byte) : transfers (.srlAtIXd d) = false := rfl
@[simp] theorem exec_srlAtIXdR (d : Byte) (r : Reg8) (s : State) :
    exec (.srlAtIXdR d r) s = execSrlAtIXdR d r s := rfl
@[simp] theorem touched_srlAtIXdR (d : Byte) (r : Reg8) :
    touched (.srlAtIXdR d r) = regPlace r :: .mem :: Place.flags := rfl
@[simp] theorem stores_srlAtIXdR (d : Byte) (r : Reg8) (s : State) :
    stores s (.srlAtIXdR d r) = [s.indexed .ix d] := rfl
@[simp] theorem transfers_srlAtIXdR (d : Byte) (r : Reg8) : transfers (.srlAtIXdR d r) = false := rfl
@[simp] theorem exec_srlAtIYd (d : Byte) (s : State) : exec (.srlAtIYd d) s = execSrlAtIYd d s := rfl
@[simp] theorem touched_srlAtIYd (d : Byte) : touched (.srlAtIYd d) = .mem :: Place.flags := rfl
@[simp] theorem stores_srlAtIYd (d : Byte) (s : State) : stores s (.srlAtIYd d) = [s.indexed .iy d] := rfl
@[simp] theorem transfers_srlAtIYd (d : Byte) : transfers (.srlAtIYd d) = false := rfl
@[simp] theorem exec_srlAtIYdR (d : Byte) (r : Reg8) (s : State) :
    exec (.srlAtIYdR d r) s = execSrlAtIYdR d r s := rfl
@[simp] theorem touched_srlAtIYdR (d : Byte) (r : Reg8) :
    touched (.srlAtIYdR d r) = regPlace r :: .mem :: Place.flags := rfl
@[simp] theorem stores_srlAtIYdR (d : Byte) (r : Reg8) (s : State) :
    stores s (.srlAtIYdR d r) = [s.indexed .iy d] := rfl
@[simp] theorem transfers_srlAtIYdR (d : Byte) (r : Reg8) : transfers (.srlAtIYdR d r) = false := rfl
@[simp] theorem exec_bitBR (b : BitVec 3) (r : Reg8) (s : State) : exec (.bitBR b r) s = execBitBR b r s := rfl
@[simp] theorem touched_bitBR (b : BitVec 3) (r : Reg8) :
    touched (.bitBR b r) = [.sf, .zf, .f5, .hf, .f3, .pv, .nf] := rfl
@[simp] theorem stores_bitBR (b : BitVec 3) (r : Reg8) (s : State) : stores s (.bitBR b r) = [] := rfl
@[simp] theorem transfers_bitBR (b : BitVec 3) (r : Reg8) : transfers (.bitBR b r) = false := rfl
@[simp] theorem exec_bitBAtHL (b : BitVec 3) (s : State) : exec (.bitBAtHL b) s = execBitBAtHL b s := rfl
@[simp] theorem touched_bitBAtHL (b : BitVec 3) : touched (.bitBAtHL b) = [.sf, .zf, .f5, .hf, .f3, .pv, .nf] := rfl
@[simp] theorem stores_bitBAtHL (b : BitVec 3) (s : State) : stores s (.bitBAtHL b) = [] := rfl
@[simp] theorem transfers_bitBAtHL (b : BitVec 3) : transfers (.bitBAtHL b) = false := rfl
@[simp] theorem exec_resBR (b : BitVec 3) (r : Reg8) (s : State) : exec (.resBR b r) s = execResBR b r s := rfl
@[simp] theorem touched_resBR (b : BitVec 3) (r : Reg8) : touched (.resBR b r) = [regPlace r] := rfl
@[simp] theorem stores_resBR (b : BitVec 3) (r : Reg8) (s : State) : stores s (.resBR b r) = [] := rfl
@[simp] theorem transfers_resBR (b : BitVec 3) (r : Reg8) : transfers (.resBR b r) = false := rfl
@[simp] theorem exec_resBAtHL (b : BitVec 3) (s : State) : exec (.resBAtHL b) s = execResBAtHL b s := rfl
@[simp] theorem touched_resBAtHL (b : BitVec 3) : touched (.resBAtHL b) = [.mem] := rfl
@[simp] theorem stores_resBAtHL (b : BitVec 3) (s : State) : stores s (.resBAtHL b) = [s.hl] := rfl
@[simp] theorem transfers_resBAtHL (b : BitVec 3) : transfers (.resBAtHL b) = false := rfl
@[simp] theorem exec_setBR (b : BitVec 3) (r : Reg8) (s : State) : exec (.setBR b r) s = execSetBR b r s := rfl
@[simp] theorem touched_setBR (b : BitVec 3) (r : Reg8) : touched (.setBR b r) = [regPlace r] := rfl
@[simp] theorem stores_setBR (b : BitVec 3) (r : Reg8) (s : State) : stores s (.setBR b r) = [] := rfl
@[simp] theorem transfers_setBR (b : BitVec 3) (r : Reg8) : transfers (.setBR b r) = false := rfl
@[simp] theorem exec_setBAtHL (b : BitVec 3) (s : State) : exec (.setBAtHL b) s = execSetBAtHL b s := rfl
@[simp] theorem touched_setBAtHL (b : BitVec 3) : touched (.setBAtHL b) = [.mem] := rfl
@[simp] theorem stores_setBAtHL (b : BitVec 3) (s : State) : stores s (.setBAtHL b) = [s.hl] := rfl
@[simp] theorem transfers_setBAtHL (b : BitVec 3) : transfers (.setBAtHL b) = false := rfl
@[simp] theorem exec_bitBAtIXd (b : BitVec 3) (d : Byte) (s : State) :
    exec (.bitBAtIXd b d) s = execBitBAtIXd b d s := rfl
@[simp] theorem touched_bitBAtIXd (b : BitVec 3) (d : Byte) :
    touched (.bitBAtIXd b d) = [.sf, .zf, .f5, .hf, .f3, .pv, .nf] := rfl
@[simp] theorem stores_bitBAtIXd (b : BitVec 3) (d : Byte) (s : State) : stores s (.bitBAtIXd b d) = [] := rfl
@[simp] theorem transfers_bitBAtIXd (b : BitVec 3) (d : Byte) : transfers (.bitBAtIXd b d) = false := rfl
@[simp] theorem exec_resBAtIXd (b : BitVec 3) (d : Byte) (s : State) :
    exec (.resBAtIXd b d) s = execResBAtIXd b d s := rfl
@[simp] theorem touched_resBAtIXd (b : BitVec 3) (d : Byte) : touched (.resBAtIXd b d) = [.mem] := rfl
@[simp] theorem stores_resBAtIXd (b : BitVec 3) (d : Byte) (s : State) :
    stores s (.resBAtIXd b d) = [s.indexed .ix d] := rfl
@[simp] theorem transfers_resBAtIXd (b : BitVec 3) (d : Byte) : transfers (.resBAtIXd b d) = false := rfl
@[simp] theorem exec_setBAtIXd (b : BitVec 3) (d : Byte) (s : State) :
    exec (.setBAtIXd b d) s = execSetBAtIXd b d s := rfl
@[simp] theorem touched_setBAtIXd (b : BitVec 3) (d : Byte) : touched (.setBAtIXd b d) = [.mem] := rfl
@[simp] theorem stores_setBAtIXd (b : BitVec 3) (d : Byte) (s : State) :
    stores s (.setBAtIXd b d) = [s.indexed .ix d] := rfl
@[simp] theorem transfers_setBAtIXd (b : BitVec 3) (d : Byte) : transfers (.setBAtIXd b d) = false := rfl
@[simp] theorem exec_resBAtIXdR (b : BitVec 3) (d : Byte) (r : Reg8) (s : State) :
    exec (.resBAtIXdR b d r) s = execResBAtIXdR b d r s := rfl
@[simp] theorem touched_resBAtIXdR (b : BitVec 3) (d : Byte) (r : Reg8) :
    touched (.resBAtIXdR b d r) = [regPlace r, .mem] := rfl
@[simp] theorem stores_resBAtIXdR (b : BitVec 3) (d : Byte) (r : Reg8) (s : State) :
    stores s (.resBAtIXdR b d r) = [s.indexed .ix d] := rfl
@[simp] theorem transfers_resBAtIXdR (b : BitVec 3) (d : Byte) (r : Reg8) :
    transfers (.resBAtIXdR b d r) = false := rfl
@[simp] theorem exec_setBAtIXdR (b : BitVec 3) (d : Byte) (r : Reg8) (s : State) :
    exec (.setBAtIXdR b d r) s = execSetBAtIXdR b d r s := rfl
@[simp] theorem touched_setBAtIXdR (b : BitVec 3) (d : Byte) (r : Reg8) :
    touched (.setBAtIXdR b d r) = [regPlace r, .mem] := rfl
@[simp] theorem stores_setBAtIXdR (b : BitVec 3) (d : Byte) (r : Reg8) (s : State) :
    stores s (.setBAtIXdR b d r) = [s.indexed .ix d] := rfl
@[simp] theorem transfers_setBAtIXdR (b : BitVec 3) (d : Byte) (r : Reg8) :
    transfers (.setBAtIXdR b d r) = false := rfl
@[simp] theorem exec_bitBAtIYd (b : BitVec 3) (d : Byte) (s : State) :
    exec (.bitBAtIYd b d) s = execBitBAtIYd b d s := rfl
@[simp] theorem touched_bitBAtIYd (b : BitVec 3) (d : Byte) :
    touched (.bitBAtIYd b d) = [.sf, .zf, .f5, .hf, .f3, .pv, .nf] := rfl
@[simp] theorem stores_bitBAtIYd (b : BitVec 3) (d : Byte) (s : State) : stores s (.bitBAtIYd b d) = [] := rfl
@[simp] theorem transfers_bitBAtIYd (b : BitVec 3) (d : Byte) : transfers (.bitBAtIYd b d) = false := rfl
@[simp] theorem exec_resBAtIYd (b : BitVec 3) (d : Byte) (s : State) :
    exec (.resBAtIYd b d) s = execResBAtIYd b d s := rfl
@[simp] theorem touched_resBAtIYd (b : BitVec 3) (d : Byte) : touched (.resBAtIYd b d) = [.mem] := rfl
@[simp] theorem stores_resBAtIYd (b : BitVec 3) (d : Byte) (s : State) :
    stores s (.resBAtIYd b d) = [s.indexed .iy d] := rfl
@[simp] theorem transfers_resBAtIYd (b : BitVec 3) (d : Byte) : transfers (.resBAtIYd b d) = false := rfl
@[simp] theorem exec_setBAtIYd (b : BitVec 3) (d : Byte) (s : State) :
    exec (.setBAtIYd b d) s = execSetBAtIYd b d s := rfl
@[simp] theorem touched_setBAtIYd (b : BitVec 3) (d : Byte) : touched (.setBAtIYd b d) = [.mem] := rfl
@[simp] theorem stores_setBAtIYd (b : BitVec 3) (d : Byte) (s : State) :
    stores s (.setBAtIYd b d) = [s.indexed .iy d] := rfl
@[simp] theorem transfers_setBAtIYd (b : BitVec 3) (d : Byte) : transfers (.setBAtIYd b d) = false := rfl
@[simp] theorem exec_resBAtIYdR (b : BitVec 3) (d : Byte) (r : Reg8) (s : State) :
    exec (.resBAtIYdR b d r) s = execResBAtIYdR b d r s := rfl
@[simp] theorem touched_resBAtIYdR (b : BitVec 3) (d : Byte) (r : Reg8) :
    touched (.resBAtIYdR b d r) = [regPlace r, .mem] := rfl
@[simp] theorem stores_resBAtIYdR (b : BitVec 3) (d : Byte) (r : Reg8) (s : State) :
    stores s (.resBAtIYdR b d r) = [s.indexed .iy d] := rfl
@[simp] theorem transfers_resBAtIYdR (b : BitVec 3) (d : Byte) (r : Reg8) :
    transfers (.resBAtIYdR b d r) = false := rfl
@[simp] theorem exec_setBAtIYdR (b : BitVec 3) (d : Byte) (r : Reg8) (s : State) :
    exec (.setBAtIYdR b d r) s = execSetBAtIYdR b d r s := rfl
@[simp] theorem touched_setBAtIYdR (b : BitVec 3) (d : Byte) (r : Reg8) :
    touched (.setBAtIYdR b d r) = [regPlace r, .mem] := rfl
@[simp] theorem stores_setBAtIYdR (b : BitVec 3) (d : Byte) (r : Reg8) (s : State) :
    stores s (.setBAtIYdR b d r) = [s.indexed .iy d] := rfl
@[simp] theorem transfers_setBAtIYdR (b : BitVec 3) (d : Byte) (r : Reg8) :
    transfers (.setBAtIYdR b d r) = false := rfl
@[simp] theorem exec_jpNN (nn : Word) (s : State) : exec (.jpNN nn) s = execJpNN nn s := rfl
@[simp] theorem touched_jpNN (nn : Word) : touched (.jpNN nn) = [] := rfl
@[simp] theorem stores_jpNN (nn : Word) (s : State) : stores s (.jpNN nn) = [] := rfl
@[simp] theorem transfers_jpNN (nn : Word) : transfers (.jpNN nn) = true := rfl
@[simp] theorem exec_jpCondNN (cc : Cond) (nn : Word) (s : State) :
    exec (.jpCondNN cc nn) s = execJpCondNN cc nn s := rfl
@[simp] theorem touched_jpCondNN (cc : Cond) (nn : Word) : touched (.jpCondNN cc nn) = [] := rfl
@[simp] theorem stores_jpCondNN (cc : Cond) (nn : Word) (s : State) : stores s (.jpCondNN cc nn) = [] := rfl
@[simp] theorem transfers_jpCondNN (cc : Cond) (nn : Word) : transfers (.jpCondNN cc nn) = true := rfl
@[simp] theorem exec_jrE (e : Byte) (s : State) : exec (.jrE e) s = execJrE e s := rfl
@[simp] theorem touched_jrE (e : Byte) : touched (.jrE e) = [] := rfl
@[simp] theorem stores_jrE (e : Byte) (s : State) : stores s (.jrE e) = [] := rfl
@[simp] theorem transfers_jrE (e : Byte) : transfers (.jrE e) = true := rfl
@[simp] theorem exec_jrCondE (cc : Cond) (e : Byte) (s : State) : exec (.jrCondE cc e) s = execJrCondE cc e s := rfl
@[simp] theorem touched_jrCondE (cc : Cond) (e : Byte) : touched (.jrCondE cc e) = [] := rfl
@[simp] theorem stores_jrCondE (cc : Cond) (e : Byte) (s : State) : stores s (.jrCondE cc e) = [] := rfl
@[simp] theorem transfers_jrCondE (cc : Cond) (e : Byte) : transfers (.jrCondE cc e) = true := rfl
@[simp] theorem exec_djnzE (e : Byte) (s : State) : exec (.djnzE e) s = execDjnzE e s := rfl
@[simp] theorem touched_djnzE (e : Byte) : touched (.djnzE e) = [.b] := rfl
@[simp] theorem stores_djnzE (e : Byte) (s : State) : stores s (.djnzE e) = [] := rfl
@[simp] theorem transfers_djnzE (e : Byte) : transfers (.djnzE e) = true := rfl
@[simp] theorem exec_callNN (nn : Word) (s : State) : exec (.callNN nn) s = execCallNN nn s := rfl
@[simp] theorem touched_callNN (nn : Word) : touched (.callNN nn) = [.sp, .mem] := rfl
@[simp] theorem stores_callNN (nn : Word) (s : State) : stores s (.callNN nn) = [s.sp - 1, s.sp - 2] := rfl
@[simp] theorem transfers_callNN (nn : Word) : transfers (.callNN nn) = true := rfl
@[simp] theorem exec_callCondNN (cc : Cond) (nn : Word) (s : State) :
    exec (.callCondNN cc nn) s = execCallCondNN cc nn s := rfl
@[simp] theorem touched_callCondNN (cc : Cond) (nn : Word) : touched (.callCondNN cc nn) = [.sp, .mem] := rfl
@[simp] theorem stores_callCondNN (cc : Cond) (nn : Word) (s : State) :
    stores s (.callCondNN cc nn) = [s.sp - 1, s.sp - 2] := rfl
@[simp] theorem transfers_callCondNN (cc : Cond) (nn : Word) : transfers (.callCondNN cc nn) = true := rfl
@[simp] theorem exec_retCond (cc : Cond) (s : State) : exec (.retCond cc) s = execRetCond cc s := rfl
@[simp] theorem touched_retCond (cc : Cond) : touched (.retCond cc) = [.sp] := rfl
@[simp] theorem stores_retCond (cc : Cond) (s : State) : stores s (.retCond cc) = [] := rfl
@[simp] theorem transfers_retCond (cc : Cond) : transfers (.retCond cc) = true := rfl
@[simp] theorem exec_rstN (v : BitVec 3) (s : State) : exec (.rstN v) s = execRstN v s := rfl
@[simp] theorem touched_rstN (v : BitVec 3) : touched (.rstN v) = [.sp, .mem] := rfl
@[simp] theorem stores_rstN (v : BitVec 3) (s : State) : stores s (.rstN v) = [s.sp - 1, s.sp - 2] := rfl
@[simp] theorem transfers_rstN (v : BitVec 3) : transfers (.rstN v) = true := rfl
@[simp] theorem exec_inAAtN (n : Byte) (s : State) : exec (.inAAtN n) s = execInAAtN n s := rfl
@[simp] theorem touched_inAAtN (n : Byte) : touched (.inAAtN n) = .a :: Place.io := rfl
@[simp] theorem stores_inAAtN (n : Byte) (s : State) : stores s (.inAAtN n) = [] := rfl
@[simp] theorem transfers_inAAtN (n : Byte) : transfers (.inAAtN n) = false := rfl
@[simp] theorem exec_inRAtC (t : Reg8) (s : State) : exec (.inRAtC t) s = execInRAtC t s := rfl
@[simp] theorem touched_inRAtC (t : Reg8) : touched (.inRAtC t) = regPlace t :: Place.io ++ Place.flagsButCF := rfl
@[simp] theorem stores_inRAtC (t : Reg8) (s : State) : stores s (.inRAtC t) = [] := rfl
@[simp] theorem transfers_inRAtC (t : Reg8) : transfers (.inRAtC t) = false := rfl
@[simp] theorem exec_outAtNA (n : Byte) (s : State) : exec (.outAtNA n) s = execOutAtNA n s := rfl
@[simp] theorem touched_outAtNA (n : Byte) : touched (.outAtNA n) = [.events] := rfl
@[simp] theorem stores_outAtNA (n : Byte) (s : State) : stores s (.outAtNA n) = [] := rfl
@[simp] theorem transfers_outAtNA (n : Byte) : transfers (.outAtNA n) = false := rfl
@[simp] theorem exec_outAtCR (t : Reg8) (s : State) : exec (.outAtCR t) s = execOutAtCR t s := rfl
@[simp] theorem touched_outAtCR (t : Reg8) : touched (.outAtCR t) = [.events] := rfl
@[simp] theorem stores_outAtCR (t : Reg8) (s : State) : stores s (.outAtCR t) = [] := rfl
@[simp] theorem transfers_outAtCR (t : Reg8) : transfers (.outAtCR t) = false := rfl
@[simp] theorem exec_nextregNN (g : Byte) (n : Byte) (s : State) :
    exec (.nextregNN g n) s = execNextregNN g n s := rfl
@[simp] theorem touched_nextregNN (g : Byte) (n : Byte) : touched (.nextregNN g n) = [.events] := rfl
@[simp] theorem stores_nextregNN (g : Byte) (n : Byte) (s : State) : stores s (.nextregNN g n) = [] := rfl
@[simp] theorem transfers_nextregNN (g : Byte) (n : Byte) : transfers (.nextregNN g n) = false := rfl
@[simp] theorem exec_nextregNA (g : Byte) (s : State) : exec (.nextregNA g) s = execNextregNA g s := rfl
@[simp] theorem touched_nextregNA (g : Byte) : touched (.nextregNA g) = [.events] := rfl
@[simp] theorem stores_nextregNA (g : Byte) (s : State) : stores s (.nextregNA g) = [] := rfl
@[simp] theorem transfers_nextregNA (g : Byte) : transfers (.nextregNA g) = false := rfl
@[simp] theorem exec_ldAAtBC (s : State) : exec .ldAAtBC s = execLdAAtBC s := rfl
@[simp] theorem touched_ldAAtBC : touched .ldAAtBC = [.a] := rfl
@[simp] theorem stores_ldAAtBC (s : State) : stores s .ldAAtBC = [] := rfl
@[simp] theorem transfers_ldAAtBC : transfers .ldAAtBC = false := rfl
@[simp] theorem exec_ldAAtDE (s : State) : exec .ldAAtDE s = execLdAAtDE s := rfl
@[simp] theorem touched_ldAAtDE : touched .ldAAtDE = [.a] := rfl
@[simp] theorem stores_ldAAtDE (s : State) : stores s .ldAAtDE = [] := rfl
@[simp] theorem transfers_ldAAtDE : transfers .ldAAtDE = false := rfl
@[simp] theorem exec_ldAtBCA (s : State) : exec .ldAtBCA s = execLdAtBCA s := rfl
@[simp] theorem touched_ldAtBCA : touched .ldAtBCA = [.mem] := rfl
@[simp] theorem stores_ldAtBCA (s : State) : stores s .ldAtBCA = [s.bc] := rfl
@[simp] theorem transfers_ldAtBCA : transfers .ldAtBCA = false := rfl
@[simp] theorem exec_ldAtDEA (s : State) : exec .ldAtDEA s = execLdAtDEA s := rfl
@[simp] theorem touched_ldAtDEA : touched .ldAtDEA = [.mem] := rfl
@[simp] theorem stores_ldAtDEA (s : State) : stores s .ldAtDEA = [s.de] := rfl
@[simp] theorem transfers_ldAtDEA : transfers .ldAtDEA = false := rfl
@[simp] theorem exec_ldAI (s : State) : exec .ldAI s = execLdAI s := rfl
@[simp] theorem touched_ldAI : touched .ldAI = .a :: Place.flagsButCF := rfl
@[simp] theorem stores_ldAI (s : State) : stores s .ldAI = [] := rfl
@[simp] theorem transfers_ldAI : transfers .ldAI = false := rfl
@[simp] theorem exec_ldARfsh (s : State) : exec .ldARfsh s = execLdARfsh s := rfl
@[simp] theorem touched_ldARfsh : touched .ldARfsh = .a :: Place.flagsButCF := rfl
@[simp] theorem stores_ldARfsh (s : State) : stores s .ldARfsh = [] := rfl
@[simp] theorem transfers_ldARfsh : transfers .ldARfsh = false := rfl
@[simp] theorem exec_ldIA (s : State) : exec .ldIA s = execLdIA s := rfl
@[simp] theorem touched_ldIA : touched .ldIA = [.i] := rfl
@[simp] theorem stores_ldIA (s : State) : stores s .ldIA = [] := rfl
@[simp] theorem transfers_ldIA : transfers .ldIA = false := rfl
@[simp] theorem exec_ldRfshA (s : State) : exec .ldRfshA s = execLdRfshA s := rfl
@[simp] theorem touched_ldRfshA : touched .ldRfshA = [.r] := rfl
@[simp] theorem stores_ldRfshA (s : State) : stores s .ldRfshA = [] := rfl
@[simp] theorem transfers_ldRfshA : transfers .ldRfshA = false := rfl
@[simp] theorem exec_ldIXHIXH (s : State) : exec .ldIXHIXH s = execLdIXHIXH s := rfl
@[simp] theorem touched_ldIXHIXH : touched .ldIXHIXH = [.ix] := rfl
@[simp] theorem stores_ldIXHIXH (s : State) : stores s .ldIXHIXH = [] := rfl
@[simp] theorem transfers_ldIXHIXH : transfers .ldIXHIXH = false := rfl
@[simp] theorem exec_ldIXHIXL (s : State) : exec .ldIXHIXL s = execLdIXHIXL s := rfl
@[simp] theorem touched_ldIXHIXL : touched .ldIXHIXL = [.ix] := rfl
@[simp] theorem stores_ldIXHIXL (s : State) : stores s .ldIXHIXL = [] := rfl
@[simp] theorem transfers_ldIXHIXL : transfers .ldIXHIXL = false := rfl
@[simp] theorem exec_ldIXLIXH (s : State) : exec .ldIXLIXH s = execLdIXLIXH s := rfl
@[simp] theorem touched_ldIXLIXH : touched .ldIXLIXH = [.ix] := rfl
@[simp] theorem stores_ldIXLIXH (s : State) : stores s .ldIXLIXH = [] := rfl
@[simp] theorem transfers_ldIXLIXH : transfers .ldIXLIXH = false := rfl
@[simp] theorem exec_ldIXLIXL (s : State) : exec .ldIXLIXL s = execLdIXLIXL s := rfl
@[simp] theorem touched_ldIXLIXL : touched .ldIXLIXL = [.ix] := rfl
@[simp] theorem stores_ldIXLIXL (s : State) : stores s .ldIXLIXL = [] := rfl
@[simp] theorem transfers_ldIXLIXL : transfers .ldIXLIXL = false := rfl
@[simp] theorem exec_ldIYHIYH (s : State) : exec .ldIYHIYH s = execLdIYHIYH s := rfl
@[simp] theorem touched_ldIYHIYH : touched .ldIYHIYH = [.iy] := rfl
@[simp] theorem stores_ldIYHIYH (s : State) : stores s .ldIYHIYH = [] := rfl
@[simp] theorem transfers_ldIYHIYH : transfers .ldIYHIYH = false := rfl
@[simp] theorem exec_ldIYHIYL (s : State) : exec .ldIYHIYL s = execLdIYHIYL s := rfl
@[simp] theorem touched_ldIYHIYL : touched .ldIYHIYL = [.iy] := rfl
@[simp] theorem stores_ldIYHIYL (s : State) : stores s .ldIYHIYL = [] := rfl
@[simp] theorem transfers_ldIYHIYL : transfers .ldIYHIYL = false := rfl
@[simp] theorem exec_ldIYLIYH (s : State) : exec .ldIYLIYH s = execLdIYLIYH s := rfl
@[simp] theorem touched_ldIYLIYH : touched .ldIYLIYH = [.iy] := rfl
@[simp] theorem stores_ldIYLIYH (s : State) : stores s .ldIYLIYH = [] := rfl
@[simp] theorem transfers_ldIYLIYH : transfers .ldIYLIYH = false := rfl
@[simp] theorem exec_ldIYLIYL (s : State) : exec .ldIYLIYL s = execLdIYLIYL s := rfl
@[simp] theorem touched_ldIYLIYL : touched .ldIYLIYL = [.iy] := rfl
@[simp] theorem stores_ldIYLIYL (s : State) : stores s .ldIYLIYL = [] := rfl
@[simp] theorem transfers_ldIYLIYL : transfers .ldIYLIYL = false := rfl
@[simp] theorem exec_ldSPHL (s : State) : exec .ldSPHL s = execLdSPHL s := rfl
@[simp] theorem touched_ldSPHL : touched .ldSPHL = [.sp] := rfl
@[simp] theorem stores_ldSPHL (s : State) : stores s .ldSPHL = [] := rfl
@[simp] theorem transfers_ldSPHL : transfers .ldSPHL = false := rfl
@[simp] theorem exec_ldSPIX (s : State) : exec .ldSPIX s = execLdSPIX s := rfl
@[simp] theorem touched_ldSPIX : touched .ldSPIX = [.sp] := rfl
@[simp] theorem stores_ldSPIX (s : State) : stores s .ldSPIX = [] := rfl
@[simp] theorem transfers_ldSPIX : transfers .ldSPIX = false := rfl
@[simp] theorem exec_ldSPIY (s : State) : exec .ldSPIY s = execLdSPIY s := rfl
@[simp] theorem touched_ldSPIY : touched .ldSPIY = [.sp] := rfl
@[simp] theorem stores_ldSPIY (s : State) : stores s .ldSPIY = [] := rfl
@[simp] theorem transfers_ldSPIY : transfers .ldSPIY = false := rfl
@[simp] theorem exec_pushIX (s : State) : exec .pushIX s = execPushIX s := rfl
@[simp] theorem touched_pushIX : touched .pushIX = [.sp, .mem] := rfl
@[simp] theorem stores_pushIX (s : State) : stores s .pushIX = [s.sp - 1, s.sp - 2] := rfl
@[simp] theorem transfers_pushIX : transfers .pushIX = false := rfl
@[simp] theorem exec_popIX (s : State) : exec .popIX s = execPopIX s := rfl
@[simp] theorem touched_popIX : touched .popIX = [.sp, .ix] := rfl
@[simp] theorem stores_popIX (s : State) : stores s .popIX = [] := rfl
@[simp] theorem transfers_popIX : transfers .popIX = false := rfl
@[simp] theorem exec_pushIY (s : State) : exec .pushIY s = execPushIY s := rfl
@[simp] theorem touched_pushIY : touched .pushIY = [.sp, .mem] := rfl
@[simp] theorem stores_pushIY (s : State) : stores s .pushIY = [s.sp - 1, s.sp - 2] := rfl
@[simp] theorem transfers_pushIY : transfers .pushIY = false := rfl
@[simp] theorem exec_popIY (s : State) : exec .popIY s = execPopIY s := rfl
@[simp] theorem touched_popIY : touched .popIY = [.sp, .iy] := rfl
@[simp] theorem stores_popIY (s : State) : stores s .popIY = [] := rfl
@[simp] theorem transfers_popIY : transfers .popIY = false := rfl
@[simp] theorem exec_exAFAFAlt (s : State) : exec .exAFAFAlt s = execExAFAFAlt s := rfl
@[simp] theorem touched_exAFAFAlt : touched .exAFAFAlt = .a :: .a' :: .f' :: Place.flags := rfl
@[simp] theorem stores_exAFAFAlt (s : State) : stores s .exAFAFAlt = [] := rfl
@[simp] theorem transfers_exAFAFAlt : transfers .exAFAFAlt = false := rfl
@[simp] theorem exec_exDEHL (s : State) : exec .exDEHL s = execExDEHL s := rfl
@[simp] theorem touched_exDEHL : touched .exDEHL = [.d, .e, .h, .l] := rfl
@[simp] theorem stores_exDEHL (s : State) : stores s .exDEHL = [] := rfl
@[simp] theorem transfers_exDEHL : transfers .exDEHL = false := rfl
@[simp] theorem exec_exAtSPHL (s : State) : exec .exAtSPHL s = execExAtSPHL s := rfl
@[simp] theorem touched_exAtSPHL : touched .exAtSPHL = [.mem, .h, .l] := rfl
@[simp] theorem stores_exAtSPHL (s : State) : stores s .exAtSPHL = [s.sp, s.sp + 1] := rfl
@[simp] theorem transfers_exAtSPHL : transfers .exAtSPHL = false := rfl
@[simp] theorem exec_exAtSPIX (s : State) : exec .exAtSPIX s = execExAtSPIX s := rfl
@[simp] theorem touched_exAtSPIX : touched .exAtSPIX = [.mem, .ix] := rfl
@[simp] theorem stores_exAtSPIX (s : State) : stores s .exAtSPIX = [s.sp, s.sp + 1] := rfl
@[simp] theorem transfers_exAtSPIX : transfers .exAtSPIX = false := rfl
@[simp] theorem exec_exAtSPIY (s : State) : exec .exAtSPIY s = execExAtSPIY s := rfl
@[simp] theorem touched_exAtSPIY : touched .exAtSPIY = [.mem, .iy] := rfl
@[simp] theorem stores_exAtSPIY (s : State) : stores s .exAtSPIY = [s.sp, s.sp + 1] := rfl
@[simp] theorem transfers_exAtSPIY : transfers .exAtSPIY = false := rfl
@[simp] theorem exec_exx (s : State) : exec .exx s = execExx s := rfl
@[simp] theorem touched_exx : touched .exx = [.b, .c, .d, .e, .h, .l, .b', .c', .d', .e', .h', .l'] := rfl
@[simp] theorem stores_exx (s : State) : stores s .exx = [] := rfl
@[simp] theorem transfers_exx : transfers .exx = false := rfl
@[simp] theorem exec_addAAtHL (s : State) : exec .addAAtHL s = execAddAAtHL s := rfl
@[simp] theorem touched_addAAtHL : touched .addAAtHL = .a :: Place.flags := rfl
@[simp] theorem stores_addAAtHL (s : State) : stores s .addAAtHL = [] := rfl
@[simp] theorem transfers_addAAtHL : transfers .addAAtHL = false := rfl
@[simp] theorem exec_addAIXH (s : State) : exec .addAIXH s = execAddAIXH s := rfl
@[simp] theorem touched_addAIXH : touched .addAIXH = .a :: Place.flags := rfl
@[simp] theorem stores_addAIXH (s : State) : stores s .addAIXH = [] := rfl
@[simp] theorem transfers_addAIXH : transfers .addAIXH = false := rfl
@[simp] theorem exec_addAIXL (s : State) : exec .addAIXL s = execAddAIXL s := rfl
@[simp] theorem touched_addAIXL : touched .addAIXL = .a :: Place.flags := rfl
@[simp] theorem stores_addAIXL (s : State) : stores s .addAIXL = [] := rfl
@[simp] theorem transfers_addAIXL : transfers .addAIXL = false := rfl
@[simp] theorem exec_addAIYH (s : State) : exec .addAIYH s = execAddAIYH s := rfl
@[simp] theorem touched_addAIYH : touched .addAIYH = .a :: Place.flags := rfl
@[simp] theorem stores_addAIYH (s : State) : stores s .addAIYH = [] := rfl
@[simp] theorem transfers_addAIYH : transfers .addAIYH = false := rfl
@[simp] theorem exec_addAIYL (s : State) : exec .addAIYL s = execAddAIYL s := rfl
@[simp] theorem touched_addAIYL : touched .addAIYL = .a :: Place.flags := rfl
@[simp] theorem stores_addAIYL (s : State) : stores s .addAIYL = [] := rfl
@[simp] theorem transfers_addAIYL : transfers .addAIYL = false := rfl
@[simp] theorem exec_adcAAtHL (s : State) : exec .adcAAtHL s = execAdcAAtHL s := rfl
@[simp] theorem touched_adcAAtHL : touched .adcAAtHL = .a :: Place.flags := rfl
@[simp] theorem stores_adcAAtHL (s : State) : stores s .adcAAtHL = [] := rfl
@[simp] theorem transfers_adcAAtHL : transfers .adcAAtHL = false := rfl
@[simp] theorem exec_adcAIXH (s : State) : exec .adcAIXH s = execAdcAIXH s := rfl
@[simp] theorem touched_adcAIXH : touched .adcAIXH = .a :: Place.flags := rfl
@[simp] theorem stores_adcAIXH (s : State) : stores s .adcAIXH = [] := rfl
@[simp] theorem transfers_adcAIXH : transfers .adcAIXH = false := rfl
@[simp] theorem exec_adcAIXL (s : State) : exec .adcAIXL s = execAdcAIXL s := rfl
@[simp] theorem touched_adcAIXL : touched .adcAIXL = .a :: Place.flags := rfl
@[simp] theorem stores_adcAIXL (s : State) : stores s .adcAIXL = [] := rfl
@[simp] theorem transfers_adcAIXL : transfers .adcAIXL = false := rfl
@[simp] theorem exec_adcAIYH (s : State) : exec .adcAIYH s = execAdcAIYH s := rfl
@[simp] theorem touched_adcAIYH : touched .adcAIYH = .a :: Place.flags := rfl
@[simp] theorem stores_adcAIYH (s : State) : stores s .adcAIYH = [] := rfl
@[simp] theorem transfers_adcAIYH : transfers .adcAIYH = false := rfl
@[simp] theorem exec_adcAIYL (s : State) : exec .adcAIYL s = execAdcAIYL s := rfl
@[simp] theorem touched_adcAIYL : touched .adcAIYL = .a :: Place.flags := rfl
@[simp] theorem stores_adcAIYL (s : State) : stores s .adcAIYL = [] := rfl
@[simp] theorem transfers_adcAIYL : transfers .adcAIYL = false := rfl
@[simp] theorem exec_subAtHL (s : State) : exec .subAtHL s = execSubAtHL s := rfl
@[simp] theorem touched_subAtHL : touched .subAtHL = .a :: Place.flags := rfl
@[simp] theorem stores_subAtHL (s : State) : stores s .subAtHL = [] := rfl
@[simp] theorem transfers_subAtHL : transfers .subAtHL = false := rfl
@[simp] theorem exec_subIXH (s : State) : exec .subIXH s = execSubIXH s := rfl
@[simp] theorem touched_subIXH : touched .subIXH = .a :: Place.flags := rfl
@[simp] theorem stores_subIXH (s : State) : stores s .subIXH = [] := rfl
@[simp] theorem transfers_subIXH : transfers .subIXH = false := rfl
@[simp] theorem exec_subIXL (s : State) : exec .subIXL s = execSubIXL s := rfl
@[simp] theorem touched_subIXL : touched .subIXL = .a :: Place.flags := rfl
@[simp] theorem stores_subIXL (s : State) : stores s .subIXL = [] := rfl
@[simp] theorem transfers_subIXL : transfers .subIXL = false := rfl
@[simp] theorem exec_subIYH (s : State) : exec .subIYH s = execSubIYH s := rfl
@[simp] theorem touched_subIYH : touched .subIYH = .a :: Place.flags := rfl
@[simp] theorem stores_subIYH (s : State) : stores s .subIYH = [] := rfl
@[simp] theorem transfers_subIYH : transfers .subIYH = false := rfl
@[simp] theorem exec_subIYL (s : State) : exec .subIYL s = execSubIYL s := rfl
@[simp] theorem touched_subIYL : touched .subIYL = .a :: Place.flags := rfl
@[simp] theorem stores_subIYL (s : State) : stores s .subIYL = [] := rfl
@[simp] theorem transfers_subIYL : transfers .subIYL = false := rfl
@[simp] theorem exec_sbcAAtHL (s : State) : exec .sbcAAtHL s = execSbcAAtHL s := rfl
@[simp] theorem touched_sbcAAtHL : touched .sbcAAtHL = .a :: Place.flags := rfl
@[simp] theorem stores_sbcAAtHL (s : State) : stores s .sbcAAtHL = [] := rfl
@[simp] theorem transfers_sbcAAtHL : transfers .sbcAAtHL = false := rfl
@[simp] theorem exec_sbcAIXH (s : State) : exec .sbcAIXH s = execSbcAIXH s := rfl
@[simp] theorem touched_sbcAIXH : touched .sbcAIXH = .a :: Place.flags := rfl
@[simp] theorem stores_sbcAIXH (s : State) : stores s .sbcAIXH = [] := rfl
@[simp] theorem transfers_sbcAIXH : transfers .sbcAIXH = false := rfl
@[simp] theorem exec_sbcAIXL (s : State) : exec .sbcAIXL s = execSbcAIXL s := rfl
@[simp] theorem touched_sbcAIXL : touched .sbcAIXL = .a :: Place.flags := rfl
@[simp] theorem stores_sbcAIXL (s : State) : stores s .sbcAIXL = [] := rfl
@[simp] theorem transfers_sbcAIXL : transfers .sbcAIXL = false := rfl
@[simp] theorem exec_sbcAIYH (s : State) : exec .sbcAIYH s = execSbcAIYH s := rfl
@[simp] theorem touched_sbcAIYH : touched .sbcAIYH = .a :: Place.flags := rfl
@[simp] theorem stores_sbcAIYH (s : State) : stores s .sbcAIYH = [] := rfl
@[simp] theorem transfers_sbcAIYH : transfers .sbcAIYH = false := rfl
@[simp] theorem exec_sbcAIYL (s : State) : exec .sbcAIYL s = execSbcAIYL s := rfl
@[simp] theorem touched_sbcAIYL : touched .sbcAIYL = .a :: Place.flags := rfl
@[simp] theorem stores_sbcAIYL (s : State) : stores s .sbcAIYL = [] := rfl
@[simp] theorem transfers_sbcAIYL : transfers .sbcAIYL = false := rfl
@[simp] theorem exec_andAtHL (s : State) : exec .andAtHL s = execAndAtHL s := rfl
@[simp] theorem touched_andAtHL : touched .andAtHL = .a :: Place.flags := rfl
@[simp] theorem stores_andAtHL (s : State) : stores s .andAtHL = [] := rfl
@[simp] theorem transfers_andAtHL : transfers .andAtHL = false := rfl
@[simp] theorem exec_andIXH (s : State) : exec .andIXH s = execAndIXH s := rfl
@[simp] theorem touched_andIXH : touched .andIXH = .a :: Place.flags := rfl
@[simp] theorem stores_andIXH (s : State) : stores s .andIXH = [] := rfl
@[simp] theorem transfers_andIXH : transfers .andIXH = false := rfl
@[simp] theorem exec_andIXL (s : State) : exec .andIXL s = execAndIXL s := rfl
@[simp] theorem touched_andIXL : touched .andIXL = .a :: Place.flags := rfl
@[simp] theorem stores_andIXL (s : State) : stores s .andIXL = [] := rfl
@[simp] theorem transfers_andIXL : transfers .andIXL = false := rfl
@[simp] theorem exec_andIYH (s : State) : exec .andIYH s = execAndIYH s := rfl
@[simp] theorem touched_andIYH : touched .andIYH = .a :: Place.flags := rfl
@[simp] theorem stores_andIYH (s : State) : stores s .andIYH = [] := rfl
@[simp] theorem transfers_andIYH : transfers .andIYH = false := rfl
@[simp] theorem exec_andIYL (s : State) : exec .andIYL s = execAndIYL s := rfl
@[simp] theorem touched_andIYL : touched .andIYL = .a :: Place.flags := rfl
@[simp] theorem stores_andIYL (s : State) : stores s .andIYL = [] := rfl
@[simp] theorem transfers_andIYL : transfers .andIYL = false := rfl
@[simp] theorem exec_xorAtHL (s : State) : exec .xorAtHL s = execXorAtHL s := rfl
@[simp] theorem touched_xorAtHL : touched .xorAtHL = .a :: Place.flags := rfl
@[simp] theorem stores_xorAtHL (s : State) : stores s .xorAtHL = [] := rfl
@[simp] theorem transfers_xorAtHL : transfers .xorAtHL = false := rfl
@[simp] theorem exec_xorIXH (s : State) : exec .xorIXH s = execXorIXH s := rfl
@[simp] theorem touched_xorIXH : touched .xorIXH = .a :: Place.flags := rfl
@[simp] theorem stores_xorIXH (s : State) : stores s .xorIXH = [] := rfl
@[simp] theorem transfers_xorIXH : transfers .xorIXH = false := rfl
@[simp] theorem exec_xorIXL (s : State) : exec .xorIXL s = execXorIXL s := rfl
@[simp] theorem touched_xorIXL : touched .xorIXL = .a :: Place.flags := rfl
@[simp] theorem stores_xorIXL (s : State) : stores s .xorIXL = [] := rfl
@[simp] theorem transfers_xorIXL : transfers .xorIXL = false := rfl
@[simp] theorem exec_xorIYH (s : State) : exec .xorIYH s = execXorIYH s := rfl
@[simp] theorem touched_xorIYH : touched .xorIYH = .a :: Place.flags := rfl
@[simp] theorem stores_xorIYH (s : State) : stores s .xorIYH = [] := rfl
@[simp] theorem transfers_xorIYH : transfers .xorIYH = false := rfl
@[simp] theorem exec_xorIYL (s : State) : exec .xorIYL s = execXorIYL s := rfl
@[simp] theorem touched_xorIYL : touched .xorIYL = .a :: Place.flags := rfl
@[simp] theorem stores_xorIYL (s : State) : stores s .xorIYL = [] := rfl
@[simp] theorem transfers_xorIYL : transfers .xorIYL = false := rfl
@[simp] theorem exec_orAtHL (s : State) : exec .orAtHL s = execOrAtHL s := rfl
@[simp] theorem touched_orAtHL : touched .orAtHL = .a :: Place.flags := rfl
@[simp] theorem stores_orAtHL (s : State) : stores s .orAtHL = [] := rfl
@[simp] theorem transfers_orAtHL : transfers .orAtHL = false := rfl
@[simp] theorem exec_orIXH (s : State) : exec .orIXH s = execOrIXH s := rfl
@[simp] theorem touched_orIXH : touched .orIXH = .a :: Place.flags := rfl
@[simp] theorem stores_orIXH (s : State) : stores s .orIXH = [] := rfl
@[simp] theorem transfers_orIXH : transfers .orIXH = false := rfl
@[simp] theorem exec_orIXL (s : State) : exec .orIXL s = execOrIXL s := rfl
@[simp] theorem touched_orIXL : touched .orIXL = .a :: Place.flags := rfl
@[simp] theorem stores_orIXL (s : State) : stores s .orIXL = [] := rfl
@[simp] theorem transfers_orIXL : transfers .orIXL = false := rfl
@[simp] theorem exec_orIYH (s : State) : exec .orIYH s = execOrIYH s := rfl
@[simp] theorem touched_orIYH : touched .orIYH = .a :: Place.flags := rfl
@[simp] theorem stores_orIYH (s : State) : stores s .orIYH = [] := rfl
@[simp] theorem transfers_orIYH : transfers .orIYH = false := rfl
@[simp] theorem exec_orIYL (s : State) : exec .orIYL s = execOrIYL s := rfl
@[simp] theorem touched_orIYL : touched .orIYL = .a :: Place.flags := rfl
@[simp] theorem stores_orIYL (s : State) : stores s .orIYL = [] := rfl
@[simp] theorem transfers_orIYL : transfers .orIYL = false := rfl
@[simp] theorem exec_cpAtHL (s : State) : exec .cpAtHL s = execCpAtHL s := rfl
@[simp] theorem touched_cpAtHL : touched .cpAtHL = Place.flags := rfl
@[simp] theorem stores_cpAtHL (s : State) : stores s .cpAtHL = [] := rfl
@[simp] theorem transfers_cpAtHL : transfers .cpAtHL = false := rfl
@[simp] theorem exec_cpIXH (s : State) : exec .cpIXH s = execCpIXH s := rfl
@[simp] theorem touched_cpIXH : touched .cpIXH = Place.flags := rfl
@[simp] theorem stores_cpIXH (s : State) : stores s .cpIXH = [] := rfl
@[simp] theorem transfers_cpIXH : transfers .cpIXH = false := rfl
@[simp] theorem exec_cpIXL (s : State) : exec .cpIXL s = execCpIXL s := rfl
@[simp] theorem touched_cpIXL : touched .cpIXL = Place.flags := rfl
@[simp] theorem stores_cpIXL (s : State) : stores s .cpIXL = [] := rfl
@[simp] theorem transfers_cpIXL : transfers .cpIXL = false := rfl
@[simp] theorem exec_cpIYH (s : State) : exec .cpIYH s = execCpIYH s := rfl
@[simp] theorem touched_cpIYH : touched .cpIYH = Place.flags := rfl
@[simp] theorem stores_cpIYH (s : State) : stores s .cpIYH = [] := rfl
@[simp] theorem transfers_cpIYH : transfers .cpIYH = false := rfl
@[simp] theorem exec_cpIYL (s : State) : exec .cpIYL s = execCpIYL s := rfl
@[simp] theorem touched_cpIYL : touched .cpIYL = Place.flags := rfl
@[simp] theorem stores_cpIYL (s : State) : stores s .cpIYL = [] := rfl
@[simp] theorem transfers_cpIYL : transfers .cpIYL = false := rfl
@[simp] theorem exec_incAtHL (s : State) : exec .incAtHL s = execIncAtHL s := rfl
@[simp] theorem touched_incAtHL : touched .incAtHL = .mem :: Place.flagsButCF := rfl
@[simp] theorem stores_incAtHL (s : State) : stores s .incAtHL = [s.hl] := rfl
@[simp] theorem transfers_incAtHL : transfers .incAtHL = false := rfl
@[simp] theorem exec_incIXH (s : State) : exec .incIXH s = execIncIXH s := rfl
@[simp] theorem touched_incIXH : touched .incIXH = .ix :: Place.flagsButCF := rfl
@[simp] theorem stores_incIXH (s : State) : stores s .incIXH = [] := rfl
@[simp] theorem transfers_incIXH : transfers .incIXH = false := rfl
@[simp] theorem exec_incIXL (s : State) : exec .incIXL s = execIncIXL s := rfl
@[simp] theorem touched_incIXL : touched .incIXL = .ix :: Place.flagsButCF := rfl
@[simp] theorem stores_incIXL (s : State) : stores s .incIXL = [] := rfl
@[simp] theorem transfers_incIXL : transfers .incIXL = false := rfl
@[simp] theorem exec_incIYH (s : State) : exec .incIYH s = execIncIYH s := rfl
@[simp] theorem touched_incIYH : touched .incIYH = .iy :: Place.flagsButCF := rfl
@[simp] theorem stores_incIYH (s : State) : stores s .incIYH = [] := rfl
@[simp] theorem transfers_incIYH : transfers .incIYH = false := rfl
@[simp] theorem exec_incIYL (s : State) : exec .incIYL s = execIncIYL s := rfl
@[simp] theorem touched_incIYL : touched .incIYL = .iy :: Place.flagsButCF := rfl
@[simp] theorem stores_incIYL (s : State) : stores s .incIYL = [] := rfl
@[simp] theorem transfers_incIYL : transfers .incIYL = false := rfl
@[simp] theorem exec_decAtHL (s : State) : exec .decAtHL s = execDecAtHL s := rfl
@[simp] theorem touched_decAtHL : touched .decAtHL = .mem :: Place.flagsButCF := rfl
@[simp] theorem stores_decAtHL (s : State) : stores s .decAtHL = [s.hl] := rfl
@[simp] theorem transfers_decAtHL : transfers .decAtHL = false := rfl
@[simp] theorem exec_decIXH (s : State) : exec .decIXH s = execDecIXH s := rfl
@[simp] theorem touched_decIXH : touched .decIXH = .ix :: Place.flagsButCF := rfl
@[simp] theorem stores_decIXH (s : State) : stores s .decIXH = [] := rfl
@[simp] theorem transfers_decIXH : transfers .decIXH = false := rfl
@[simp] theorem exec_decIXL (s : State) : exec .decIXL s = execDecIXL s := rfl
@[simp] theorem touched_decIXL : touched .decIXL = .ix :: Place.flagsButCF := rfl
@[simp] theorem stores_decIXL (s : State) : stores s .decIXL = [] := rfl
@[simp] theorem transfers_decIXL : transfers .decIXL = false := rfl
@[simp] theorem exec_decIYH (s : State) : exec .decIYH s = execDecIYH s := rfl
@[simp] theorem touched_decIYH : touched .decIYH = .iy :: Place.flagsButCF := rfl
@[simp] theorem stores_decIYH (s : State) : stores s .decIYH = [] := rfl
@[simp] theorem transfers_decIYH : transfers .decIYH = false := rfl
@[simp] theorem exec_decIYL (s : State) : exec .decIYL s = execDecIYL s := rfl
@[simp] theorem touched_decIYL : touched .decIYL = .iy :: Place.flagsButCF := rfl
@[simp] theorem stores_decIYL (s : State) : stores s .decIYL = [] := rfl
@[simp] theorem transfers_decIYL : transfers .decIYL = false := rfl
@[simp] theorem exec_daa (s : State) : exec .daa s = execDaa s := rfl
@[simp] theorem touched_daa : touched .daa = [.a, .sf, .zf, .f5, .hf, .f3, .pv, .cf] := rfl
@[simp] theorem stores_daa (s : State) : stores s .daa = [] := rfl
@[simp] theorem transfers_daa : transfers .daa = false := rfl
@[simp] theorem exec_cpl (s : State) : exec .cpl s = execCpl s := rfl
@[simp] theorem touched_cpl : touched .cpl = [.a, .f5, .hf, .f3, .nf] := rfl
@[simp] theorem stores_cpl (s : State) : stores s .cpl = [] := rfl
@[simp] theorem transfers_cpl : transfers .cpl = false := rfl
@[simp] theorem exec_neg (s : State) : exec .neg s = execNeg s := rfl
@[simp] theorem touched_neg : touched .neg = .a :: Place.flags := rfl
@[simp] theorem stores_neg (s : State) : stores s .neg = [] := rfl
@[simp] theorem transfers_neg : transfers .neg = false := rfl
@[simp] theorem exec_ccf (s : State) : exec .ccf s = execCcf s := rfl
@[simp] theorem touched_ccf : touched .ccf = [.f5, .hf, .f3, .nf, .cf] := rfl
@[simp] theorem stores_ccf (s : State) : stores s .ccf = [] := rfl
@[simp] theorem transfers_ccf : transfers .ccf = false := rfl
@[simp] theorem exec_scf (s : State) : exec .scf s = execScf s := rfl
@[simp] theorem touched_scf : touched .scf = [.f5, .hf, .f3, .nf, .cf] := rfl
@[simp] theorem stores_scf (s : State) : stores s .scf = [] := rfl
@[simp] theorem transfers_scf : transfers .scf = false := rfl
@[simp] theorem exec_incIX (s : State) : exec .incIX s = execIncIX s := rfl
@[simp] theorem touched_incIX : touched .incIX = [.ix] := rfl
@[simp] theorem stores_incIX (s : State) : stores s .incIX = [] := rfl
@[simp] theorem transfers_incIX : transfers .incIX = false := rfl
@[simp] theorem exec_decIX (s : State) : exec .decIX s = execDecIX s := rfl
@[simp] theorem touched_decIX : touched .decIX = [.ix] := rfl
@[simp] theorem stores_decIX (s : State) : stores s .decIX = [] := rfl
@[simp] theorem transfers_decIX : transfers .decIX = false := rfl
@[simp] theorem exec_incIY (s : State) : exec .incIY s = execIncIY s := rfl
@[simp] theorem touched_incIY : touched .incIY = [.iy] := rfl
@[simp] theorem stores_incIY (s : State) : stores s .incIY = [] := rfl
@[simp] theorem transfers_incIY : transfers .incIY = false := rfl
@[simp] theorem exec_decIY (s : State) : exec .decIY s = execDecIY s := rfl
@[simp] theorem touched_decIY : touched .decIY = [.iy] := rfl
@[simp] theorem stores_decIY (s : State) : stores s .decIY = [] := rfl
@[simp] theorem transfers_decIY : transfers .decIY = false := rfl
@[simp] theorem exec_addHLA (s : State) : exec .addHLA s = execAddHLA s := rfl
@[simp] theorem touched_addHLA : touched .addHLA = [.h, .l, .f5, .f3, .cf] := rfl
@[simp] theorem stores_addHLA (s : State) : stores s .addHLA = [] := rfl
@[simp] theorem transfers_addHLA : transfers .addHLA = false := rfl
@[simp] theorem exec_addDEA (s : State) : exec .addDEA s = execAddDEA s := rfl
@[simp] theorem touched_addDEA : touched .addDEA = [.d, .e, .f5, .f3, .cf] := rfl
@[simp] theorem stores_addDEA (s : State) : stores s .addDEA = [] := rfl
@[simp] theorem transfers_addDEA : transfers .addDEA = false := rfl
@[simp] theorem exec_addBCA (s : State) : exec .addBCA s = execAddBCA s := rfl
@[simp] theorem touched_addBCA : touched .addBCA = [.b, .c, .f5, .f3, .cf] := rfl
@[simp] theorem stores_addBCA (s : State) : stores s .addBCA = [] := rfl
@[simp] theorem transfers_addBCA : transfers .addBCA = false := rfl
@[simp] theorem exec_mulDE (s : State) : exec .mulDE s = execMulDE s := rfl
@[simp] theorem touched_mulDE : touched .mulDE = [.d, .e] := rfl
@[simp] theorem stores_mulDE (s : State) : stores s .mulDE = [] := rfl
@[simp] theorem transfers_mulDE : transfers .mulDE = false := rfl
@[simp] theorem exec_rlca (s : State) : exec .rlca s = execRlca s := rfl
@[simp] theorem touched_rlca : touched .rlca = [.a, .f5, .hf, .f3, .nf, .cf] := rfl
@[simp] theorem stores_rlca (s : State) : stores s .rlca = [] := rfl
@[simp] theorem transfers_rlca : transfers .rlca = false := rfl
@[simp] theorem exec_rla (s : State) : exec .rla s = execRla s := rfl
@[simp] theorem touched_rla : touched .rla = [.a, .f5, .hf, .f3, .nf, .cf] := rfl
@[simp] theorem stores_rla (s : State) : stores s .rla = [] := rfl
@[simp] theorem transfers_rla : transfers .rla = false := rfl
@[simp] theorem exec_rrca (s : State) : exec .rrca s = execRrca s := rfl
@[simp] theorem touched_rrca : touched .rrca = [.a, .f5, .hf, .f3, .nf, .cf] := rfl
@[simp] theorem stores_rrca (s : State) : stores s .rrca = [] := rfl
@[simp] theorem transfers_rrca : transfers .rrca = false := rfl
@[simp] theorem exec_rra (s : State) : exec .rra s = execRra s := rfl
@[simp] theorem touched_rra : touched .rra = [.a, .f5, .hf, .f3, .nf, .cf] := rfl
@[simp] theorem stores_rra (s : State) : stores s .rra = [] := rfl
@[simp] theorem transfers_rra : transfers .rra = false := rfl
@[simp] theorem exec_rlcAtHL (s : State) : exec .rlcAtHL s = execRlcAtHL s := rfl
@[simp] theorem touched_rlcAtHL : touched .rlcAtHL = .mem :: Place.flags := rfl
@[simp] theorem stores_rlcAtHL (s : State) : stores s .rlcAtHL = [s.hl] := rfl
@[simp] theorem transfers_rlcAtHL : transfers .rlcAtHL = false := rfl
@[simp] theorem exec_rrcAtHL (s : State) : exec .rrcAtHL s = execRrcAtHL s := rfl
@[simp] theorem touched_rrcAtHL : touched .rrcAtHL = .mem :: Place.flags := rfl
@[simp] theorem stores_rrcAtHL (s : State) : stores s .rrcAtHL = [s.hl] := rfl
@[simp] theorem transfers_rrcAtHL : transfers .rrcAtHL = false := rfl
@[simp] theorem exec_rlAtHL (s : State) : exec .rlAtHL s = execRlAtHL s := rfl
@[simp] theorem touched_rlAtHL : touched .rlAtHL = .mem :: Place.flags := rfl
@[simp] theorem stores_rlAtHL (s : State) : stores s .rlAtHL = [s.hl] := rfl
@[simp] theorem transfers_rlAtHL : transfers .rlAtHL = false := rfl
@[simp] theorem exec_rrAtHL (s : State) : exec .rrAtHL s = execRrAtHL s := rfl
@[simp] theorem touched_rrAtHL : touched .rrAtHL = .mem :: Place.flags := rfl
@[simp] theorem stores_rrAtHL (s : State) : stores s .rrAtHL = [s.hl] := rfl
@[simp] theorem transfers_rrAtHL : transfers .rrAtHL = false := rfl
@[simp] theorem exec_slaAtHL (s : State) : exec .slaAtHL s = execSlaAtHL s := rfl
@[simp] theorem touched_slaAtHL : touched .slaAtHL = .mem :: Place.flags := rfl
@[simp] theorem stores_slaAtHL (s : State) : stores s .slaAtHL = [s.hl] := rfl
@[simp] theorem transfers_slaAtHL : transfers .slaAtHL = false := rfl
@[simp] theorem exec_sraAtHL (s : State) : exec .sraAtHL s = execSraAtHL s := rfl
@[simp] theorem touched_sraAtHL : touched .sraAtHL = .mem :: Place.flags := rfl
@[simp] theorem stores_sraAtHL (s : State) : stores s .sraAtHL = [s.hl] := rfl
@[simp] theorem transfers_sraAtHL : transfers .sraAtHL = false := rfl
@[simp] theorem exec_sliAtHL (s : State) : exec .sliAtHL s = execSliAtHL s := rfl
@[simp] theorem touched_sliAtHL : touched .sliAtHL = .mem :: Place.flags := rfl
@[simp] theorem stores_sliAtHL (s : State) : stores s .sliAtHL = [s.hl] := rfl
@[simp] theorem transfers_sliAtHL : transfers .sliAtHL = false := rfl
@[simp] theorem exec_srlAtHL (s : State) : exec .srlAtHL s = execSrlAtHL s := rfl
@[simp] theorem touched_srlAtHL : touched .srlAtHL = .mem :: Place.flags := rfl
@[simp] theorem stores_srlAtHL (s : State) : stores s .srlAtHL = [s.hl] := rfl
@[simp] theorem transfers_srlAtHL : transfers .srlAtHL = false := rfl
@[simp] theorem exec_rld (s : State) : exec .rld s = execRld s := rfl
@[simp] theorem touched_rld : touched .rld = [.a, .mem] ++ Place.flagsButCF := rfl
@[simp] theorem stores_rld (s : State) : stores s .rld = [s.hl] := rfl
@[simp] theorem transfers_rld : transfers .rld = false := rfl
@[simp] theorem exec_rrd (s : State) : exec .rrd s = execRrd s := rfl
@[simp] theorem touched_rrd : touched .rrd = [.a, .mem] ++ Place.flagsButCF := rfl
@[simp] theorem stores_rrd (s : State) : stores s .rrd = [s.hl] := rfl
@[simp] theorem transfers_rrd : transfers .rrd = false := rfl
@[simp] theorem exec_bslaDEB (s : State) : exec .bslaDEB s = execBslaDEB s := rfl
@[simp] theorem touched_bslaDEB : touched .bslaDEB = [.d, .e] := rfl
@[simp] theorem stores_bslaDEB (s : State) : stores s .bslaDEB = [] := rfl
@[simp] theorem transfers_bslaDEB : transfers .bslaDEB = false := rfl
@[simp] theorem exec_bsraDEB (s : State) : exec .bsraDEB s = execBsraDEB s := rfl
@[simp] theorem touched_bsraDEB : touched .bsraDEB = [.d, .e] := rfl
@[simp] theorem stores_bsraDEB (s : State) : stores s .bsraDEB = [] := rfl
@[simp] theorem transfers_bsraDEB : transfers .bsraDEB = false := rfl
@[simp] theorem exec_bsrlDEB (s : State) : exec .bsrlDEB s = execBsrlDEB s := rfl
@[simp] theorem touched_bsrlDEB : touched .bsrlDEB = [.d, .e] := rfl
@[simp] theorem stores_bsrlDEB (s : State) : stores s .bsrlDEB = [] := rfl
@[simp] theorem transfers_bsrlDEB : transfers .bsrlDEB = false := rfl
@[simp] theorem exec_bsrfDEB (s : State) : exec .bsrfDEB s = execBsrfDEB s := rfl
@[simp] theorem touched_bsrfDEB : touched .bsrfDEB = [.d, .e] := rfl
@[simp] theorem stores_bsrfDEB (s : State) : stores s .bsrfDEB = [] := rfl
@[simp] theorem transfers_bsrfDEB : transfers .bsrfDEB = false := rfl
@[simp] theorem exec_brlcDEB (s : State) : exec .brlcDEB s = execBrlcDEB s := rfl
@[simp] theorem touched_brlcDEB : touched .brlcDEB = [.d, .e] := rfl
@[simp] theorem stores_brlcDEB (s : State) : stores s .brlcDEB = [] := rfl
@[simp] theorem transfers_brlcDEB : transfers .brlcDEB = false := rfl
@[simp] theorem exec_mirrorA (s : State) : exec .mirrorA s = execMirrorA s := rfl
@[simp] theorem touched_mirrorA : touched .mirrorA = [.a] := rfl
@[simp] theorem stores_mirrorA (s : State) : stores s .mirrorA = [] := rfl
@[simp] theorem transfers_mirrorA : transfers .mirrorA = false := rfl
@[simp] theorem exec_swapnib (s : State) : exec .swapnib s = execSwapnib s := rfl
@[simp] theorem touched_swapnib : touched .swapnib = [.a] := rfl
@[simp] theorem stores_swapnib (s : State) : stores s .swapnib = [] := rfl
@[simp] theorem transfers_swapnib : transfers .swapnib = false := rfl
@[simp] theorem exec_setae (s : State) : exec .setae s = execSetae s := rfl
@[simp] theorem touched_setae : touched .setae = [.a] := rfl
@[simp] theorem stores_setae (s : State) : stores s .setae = [] := rfl
@[simp] theorem transfers_setae : transfers .setae = false := rfl
@[simp] theorem exec_jpAtHL (s : State) : exec .jpAtHL s = execJpAtHL s := rfl
@[simp] theorem touched_jpAtHL : touched .jpAtHL = [] := rfl
@[simp] theorem stores_jpAtHL (s : State) : stores s .jpAtHL = [] := rfl
@[simp] theorem transfers_jpAtHL : transfers .jpAtHL = true := rfl
@[simp] theorem exec_jpAtIX (s : State) : exec .jpAtIX s = execJpAtIX s := rfl
@[simp] theorem touched_jpAtIX : touched .jpAtIX = [] := rfl
@[simp] theorem stores_jpAtIX (s : State) : stores s .jpAtIX = [] := rfl
@[simp] theorem transfers_jpAtIX : transfers .jpAtIX = true := rfl
@[simp] theorem exec_jpAtIY (s : State) : exec .jpAtIY s = execJpAtIY s := rfl
@[simp] theorem touched_jpAtIY : touched .jpAtIY = [] := rfl
@[simp] theorem stores_jpAtIY (s : State) : stores s .jpAtIY = [] := rfl
@[simp] theorem transfers_jpAtIY : transfers .jpAtIY = true := rfl
@[simp] theorem exec_jpAtC (s : State) : exec .jpAtC s = execJpAtC s := rfl
@[simp] theorem touched_jpAtC : touched .jpAtC = Place.io ++ Place.flags := rfl
@[simp] theorem stores_jpAtC (s : State) : stores s .jpAtC = [] := rfl
@[simp] theorem transfers_jpAtC : transfers .jpAtC = true := rfl
@[simp] theorem exec_ret (s : State) : exec .ret s = execRet s := rfl
@[simp] theorem touched_ret : touched .ret = [.sp] := rfl
@[simp] theorem stores_ret (s : State) : stores s .ret = [] := rfl
@[simp] theorem transfers_ret : transfers .ret = true := rfl
@[simp] theorem exec_ldi (s : State) : exec .ldi s = execLdi s := rfl
@[simp] theorem touched_ldi : touched .ldi = [.mem, .b, .c, .d, .e, .h, .l, .f5, .hf, .f3, .pv, .nf] := rfl
@[simp] theorem stores_ldi (s : State) : stores s .ldi = [s.de] := rfl
@[simp] theorem transfers_ldi : transfers .ldi = false := rfl
@[simp] theorem exec_ldir (s : State) : exec .ldir s = execLdir s := rfl
@[simp] theorem touched_ldir : touched .ldir = [.mem, .b, .c, .d, .e, .h, .l, .f5, .hf, .f3, .pv, .nf] := rfl
@[simp] theorem stores_ldir (s : State) : stores s .ldir = [s.de] := rfl
@[simp] theorem transfers_ldir : transfers .ldir = true := rfl
@[simp] theorem exec_ldd (s : State) : exec .ldd s = execLdd s := rfl
@[simp] theorem touched_ldd : touched .ldd = [.mem, .b, .c, .d, .e, .h, .l, .f5, .hf, .f3, .pv, .nf] := rfl
@[simp] theorem stores_ldd (s : State) : stores s .ldd = [s.de] := rfl
@[simp] theorem transfers_ldd : transfers .ldd = false := rfl
@[simp] theorem exec_lddr (s : State) : exec .lddr s = execLddr s := rfl
@[simp] theorem touched_lddr : touched .lddr = [.mem, .b, .c, .d, .e, .h, .l, .f5, .hf, .f3, .pv, .nf] := rfl
@[simp] theorem stores_lddr (s : State) : stores s .lddr = [s.de] := rfl
@[simp] theorem transfers_lddr : transfers .lddr = true := rfl
@[simp] theorem exec_cpi (s : State) : exec .cpi s = execCpi s := rfl
@[simp] theorem touched_cpi : touched .cpi = [.b, .c, .h, .l, .sf, .zf, .f5, .hf, .f3, .pv, .nf] := rfl
@[simp] theorem stores_cpi (s : State) : stores s .cpi = [] := rfl
@[simp] theorem transfers_cpi : transfers .cpi = false := rfl
@[simp] theorem exec_cpir (s : State) : exec .cpir s = execCpir s := rfl
@[simp] theorem touched_cpir : touched .cpir = [.b, .c, .h, .l, .sf, .zf, .f5, .hf, .f3, .pv, .nf] := rfl
@[simp] theorem stores_cpir (s : State) : stores s .cpir = [] := rfl
@[simp] theorem transfers_cpir : transfers .cpir = true := rfl
@[simp] theorem exec_cpd (s : State) : exec .cpd s = execCpd s := rfl
@[simp] theorem touched_cpd : touched .cpd = [.b, .c, .h, .l, .sf, .zf, .f5, .hf, .f3, .pv, .nf] := rfl
@[simp] theorem stores_cpd (s : State) : stores s .cpd = [] := rfl
@[simp] theorem transfers_cpd : transfers .cpd = false := rfl
@[simp] theorem exec_cpdr (s : State) : exec .cpdr s = execCpdr s := rfl
@[simp] theorem touched_cpdr : touched .cpdr = [.b, .c, .h, .l, .sf, .zf, .f5, .hf, .f3, .pv, .nf] := rfl
@[simp] theorem stores_cpdr (s : State) : stores s .cpdr = [] := rfl
@[simp] theorem transfers_cpdr : transfers .cpdr = true := rfl
@[simp] theorem exec_ldix (s : State) : exec .ldix s = execLdix s := rfl
@[simp] theorem touched_ldix : touched .ldix = [.mem, .b, .c, .d, .e, .h, .l] := rfl
@[simp] theorem stores_ldix (s : State) : stores s .ldix = [s.de] := rfl
@[simp] theorem transfers_ldix : transfers .ldix = false := rfl
@[simp] theorem exec_ldirx (s : State) : exec .ldirx s = execLdirx s := rfl
@[simp] theorem touched_ldirx : touched .ldirx = [.mem, .b, .c, .d, .e, .h, .l] := rfl
@[simp] theorem stores_ldirx (s : State) : stores s .ldirx = [s.de] := rfl
@[simp] theorem transfers_ldirx : transfers .ldirx = true := rfl
@[simp] theorem exec_lddx (s : State) : exec .lddx s = execLddx s := rfl
@[simp] theorem touched_lddx : touched .lddx = [.mem, .b, .c, .d, .e, .h, .l] := rfl
@[simp] theorem stores_lddx (s : State) : stores s .lddx = [s.de] := rfl
@[simp] theorem transfers_lddx : transfers .lddx = false := rfl
@[simp] theorem exec_lddrx (s : State) : exec .lddrx s = execLddrx s := rfl
@[simp] theorem touched_lddrx : touched .lddrx = [.mem, .b, .c, .d, .e, .h, .l] := rfl
@[simp] theorem stores_lddrx (s : State) : stores s .lddrx = [s.de] := rfl
@[simp] theorem transfers_lddrx : transfers .lddrx = true := rfl
@[simp] theorem exec_ldpirx (s : State) : exec .ldpirx s = execLdpirx s := rfl
@[simp] theorem touched_ldpirx : touched .ldpirx = [.mem, .b, .c, .d, .e] := rfl
@[simp] theorem stores_ldpirx (s : State) : stores s .ldpirx = [s.de] := rfl
@[simp] theorem transfers_ldpirx : transfers .ldpirx = true := rfl
@[simp] theorem exec_ldws (s : State) : exec .ldws s = execLdws s := rfl
@[simp] theorem touched_ldws : touched .ldws = [.mem, .d, .l] ++ Place.flagsButCF := rfl
@[simp] theorem stores_ldws (s : State) : stores s .ldws = [s.de] := rfl
@[simp] theorem transfers_ldws : transfers .ldws = false := rfl
@[simp] theorem exec_inAtC (s : State) : exec .inAtC s = execInAtC s := rfl
@[simp] theorem touched_inAtC : touched .inAtC = Place.io ++ Place.flagsButCF := rfl
@[simp] theorem stores_inAtC (s : State) : stores s .inAtC = [] := rfl
@[simp] theorem transfers_inAtC : transfers .inAtC = false := rfl
@[simp] theorem exec_outAtCZero (s : State) : exec .outAtCZero s = execOutAtCZero s := rfl
@[simp] theorem touched_outAtCZero : touched .outAtCZero = [.events] := rfl
@[simp] theorem stores_outAtCZero (s : State) : stores s .outAtCZero = [] := rfl
@[simp] theorem transfers_outAtCZero : transfers .outAtCZero = false := rfl
@[simp] theorem exec_ini (s : State) : exec .ini s = execIni s := rfl
@[simp] theorem touched_ini : touched .ini = [.mem, .b, .h, .l] ++ Place.io ++ Place.flags := rfl
@[simp] theorem stores_ini (s : State) : stores s .ini = [s.hl] := rfl
@[simp] theorem transfers_ini : transfers .ini = false := rfl
@[simp] theorem exec_inir (s : State) : exec .inir s = execInir s := rfl
@[simp] theorem touched_inir : touched .inir = [.mem, .b, .h, .l] ++ Place.io ++ Place.flags := rfl
@[simp] theorem stores_inir (s : State) : stores s .inir = [s.hl] := rfl
@[simp] theorem transfers_inir : transfers .inir = true := rfl
@[simp] theorem exec_ind (s : State) : exec .ind s = execInd s := rfl
@[simp] theorem touched_ind : touched .ind = [.mem, .b, .h, .l] ++ Place.io ++ Place.flags := rfl
@[simp] theorem stores_ind (s : State) : stores s .ind = [s.hl] := rfl
@[simp] theorem transfers_ind : transfers .ind = false := rfl
@[simp] theorem exec_indr (s : State) : exec .indr s = execIndr s := rfl
@[simp] theorem touched_indr : touched .indr = [.mem, .b, .h, .l] ++ Place.io ++ Place.flags := rfl
@[simp] theorem stores_indr (s : State) : stores s .indr = [s.hl] := rfl
@[simp] theorem transfers_indr : transfers .indr = true := rfl
@[simp] theorem exec_outi (s : State) : exec .outi s = execOuti s := rfl
@[simp] theorem touched_outi : touched .outi = [.events, .b, .h, .l] ++ Place.flags := rfl
@[simp] theorem stores_outi (s : State) : stores s .outi = [] := rfl
@[simp] theorem transfers_outi : transfers .outi = false := rfl
@[simp] theorem exec_otir (s : State) : exec .otir s = execOtir s := rfl
@[simp] theorem touched_otir : touched .otir = [.events, .b, .h, .l] ++ Place.flags := rfl
@[simp] theorem stores_otir (s : State) : stores s .otir = [] := rfl
@[simp] theorem transfers_otir : transfers .otir = true := rfl
@[simp] theorem exec_outd (s : State) : exec .outd s = execOutd s := rfl
@[simp] theorem touched_outd : touched .outd = [.events, .b, .h, .l] ++ Place.flags := rfl
@[simp] theorem stores_outd (s : State) : stores s .outd = [] := rfl
@[simp] theorem transfers_outd : transfers .outd = false := rfl
@[simp] theorem exec_otdr (s : State) : exec .otdr s = execOtdr s := rfl
@[simp] theorem touched_otdr : touched .otdr = [.events, .b, .h, .l] ++ Place.flags := rfl
@[simp] theorem stores_otdr (s : State) : stores s .otdr = [] := rfl
@[simp] theorem transfers_otdr : transfers .otdr = true := rfl
@[simp] theorem exec_outinb (s : State) : exec .outinb s = execOutinb s := rfl
@[simp] theorem touched_outinb : touched .outinb = [.events, .h, .l] ++ Place.flags := rfl
@[simp] theorem stores_outinb (s : State) : stores s .outinb = [] := rfl
@[simp] theorem transfers_outinb : transfers .outinb = false := rfl
@[simp] theorem exec_nop (s : State) : exec .nop s = execNop s := rfl
@[simp] theorem touched_nop : touched .nop = [] := rfl
@[simp] theorem stores_nop (s : State) : stores s .nop = [] := rfl
@[simp] theorem transfers_nop : transfers .nop = false := rfl
@[simp] theorem exec_halt (s : State) : exec .halt s = execHalt s := rfl
@[simp] theorem touched_halt : touched .halt = [.halted] := rfl
@[simp] theorem stores_halt (s : State) : stores s .halt = [] := rfl
@[simp] theorem transfers_halt : transfers .halt = false := rfl
@[simp] theorem exec_di (s : State) : exec .di s = execDi s := rfl
@[simp] theorem touched_di : touched .di = [.iff1, .iff2, .diPending] := rfl
@[simp] theorem stores_di (s : State) : stores s .di = [] := rfl
@[simp] theorem transfers_di : transfers .di = false := rfl
@[simp] theorem exec_ei (s : State) : exec .ei s = execEi s := rfl
@[simp] theorem touched_ei : touched .ei = [.iff1, .iff2, .intInhibit] := rfl
@[simp] theorem stores_ei (s : State) : stores s .ei = [] := rfl
@[simp] theorem transfers_ei : transfers .ei = false := rfl
@[simp] theorem exec_im0 (s : State) : exec .im0 s = execIm0 s := rfl
@[simp] theorem touched_im0 : touched .im0 = [.im] := rfl
@[simp] theorem stores_im0 (s : State) : stores s .im0 = [] := rfl
@[simp] theorem transfers_im0 : transfers .im0 = false := rfl
@[simp] theorem exec_im1 (s : State) : exec .im1 s = execIm1 s := rfl
@[simp] theorem touched_im1 : touched .im1 = [.im] := rfl
@[simp] theorem stores_im1 (s : State) : stores s .im1 = [] := rfl
@[simp] theorem transfers_im1 : transfers .im1 = false := rfl
@[simp] theorem exec_im2 (s : State) : exec .im2 s = execIm2 s := rfl
@[simp] theorem touched_im2 : touched .im2 = [.im] := rfl
@[simp] theorem stores_im2 (s : State) : stores s .im2 = [] := rfl
@[simp] theorem transfers_im2 : transfers .im2 = false := rfl
@[simp] theorem exec_reti (s : State) : exec .reti s = execReti s := rfl
@[simp] theorem touched_reti : touched .reti = [.sp] := rfl
@[simp] theorem stores_reti (s : State) : stores s .reti = [] := rfl
@[simp] theorem transfers_reti : transfers .reti = true := rfl
@[simp] theorem exec_retn (s : State) : exec .retn s = execRetn s := rfl
@[simp] theorem touched_retn : touched .retn = [.sp, .iff1] := rfl
@[simp] theorem stores_retn (s : State) : stores s .retn = [] := rfl
@[simp] theorem transfers_retn : transfers .retn = true := rfl
@[simp] theorem exec_pixelad (s : State) : exec .pixelad s = execPixelad s := rfl
@[simp] theorem touched_pixelad : touched .pixelad = [.h, .l] := rfl
@[simp] theorem stores_pixelad (s : State) : stores s .pixelad = [] := rfl
@[simp] theorem transfers_pixelad : transfers .pixelad = false := rfl
@[simp] theorem exec_pixeldn (s : State) : exec .pixeldn s = execPixeldn s := rfl
@[simp] theorem touched_pixeldn : touched .pixeldn = [.h, .l] := rfl
@[simp] theorem stores_pixeldn (s : State) : stores s .pixeldn = [] := rfl
@[simp] theorem transfers_pixeldn : transfers .pixeldn = false := rfl

end Sys2Proof.Machine
end

