-- ==== Sys2Proof/Laws/State.lean ====
section
/-! SUPPORT. One lemma per field per update of the state, and what reading memory and the register pairs gives after an
update that leaves them: so that no proof unfolds a record update. -/

namespace Sys2Proof.Machine

/-! ## `State.write` -/

@[simp] theorem State.write_a (s : State) (x : Word) (v : Byte) : (s.write x v).a = s.a := rfl
@[simp] theorem State.write_f (s : State) (x : Word) (v : Byte) : (s.write x v).f = s.f := rfl
@[simp] theorem State.write_b (s : State) (x : Word) (v : Byte) : (s.write x v).b = s.b := rfl
@[simp] theorem State.write_c (s : State) (x : Word) (v : Byte) : (s.write x v).c = s.c := rfl
@[simp] theorem State.write_d (s : State) (x : Word) (v : Byte) : (s.write x v).d = s.d := rfl
@[simp] theorem State.write_e (s : State) (x : Word) (v : Byte) : (s.write x v).e = s.e := rfl
@[simp] theorem State.write_h (s : State) (x : Word) (v : Byte) : (s.write x v).h = s.h := rfl
@[simp] theorem State.write_l (s : State) (x : Word) (v : Byte) : (s.write x v).l = s.l := rfl
@[simp] theorem State.write_a_alt (s : State) (x : Word) (v : Byte) : (s.write x v).a' = s.a' := rfl
@[simp] theorem State.write_f_alt (s : State) (x : Word) (v : Byte) : (s.write x v).f' = s.f' := rfl
@[simp] theorem State.write_b_alt (s : State) (x : Word) (v : Byte) : (s.write x v).b' = s.b' := rfl
@[simp] theorem State.write_c_alt (s : State) (x : Word) (v : Byte) : (s.write x v).c' = s.c' := rfl
@[simp] theorem State.write_d_alt (s : State) (x : Word) (v : Byte) : (s.write x v).d' = s.d' := rfl
@[simp] theorem State.write_e_alt (s : State) (x : Word) (v : Byte) : (s.write x v).e' = s.e' := rfl
@[simp] theorem State.write_h_alt (s : State) (x : Word) (v : Byte) : (s.write x v).h' = s.h' := rfl
@[simp] theorem State.write_l_alt (s : State) (x : Word) (v : Byte) : (s.write x v).l' = s.l' := rfl
@[simp] theorem State.write_ix (s : State) (x : Word) (v : Byte) : (s.write x v).ix = s.ix := rfl
@[simp] theorem State.write_iy (s : State) (x : Word) (v : Byte) : (s.write x v).iy = s.iy := rfl
@[simp] theorem State.write_sp (s : State) (x : Word) (v : Byte) : (s.write x v).sp = s.sp := rfl
@[simp] theorem State.write_pc (s : State) (x : Word) (v : Byte) : (s.write x v).pc = s.pc := rfl
@[simp] theorem State.write_i (s : State) (x : Word) (v : Byte) : (s.write x v).i = s.i := rfl
@[simp] theorem State.write_r (s : State) (x : Word) (v : Byte) : (s.write x v).r = s.r := rfl
@[simp] theorem State.write_iff1 (s : State) (x : Word) (v : Byte) : (s.write x v).iff1 = s.iff1 := rfl
@[simp] theorem State.write_iff2 (s : State) (x : Word) (v : Byte) : (s.write x v).iff2 = s.iff2 := rfl
@[simp] theorem State.write_im (s : State) (x : Word) (v : Byte) : (s.write x v).im = s.im := rfl
@[simp] theorem State.write_halted (s : State) (x : Word) (v : Byte) : (s.write x v).halted = s.halted := rfl
@[simp] theorem State.write_intInhibit (s : State) (x : Word) (v : Byte) :
    (s.write x v).intInhibit = s.intInhibit := rfl
@[simp] theorem State.write_diPending (s : State) (x : Word) (v : Byte) : (s.write x v).diPending = s.diPending := rfl
@[simp] theorem State.write_mem (s : State) (x : Word) (v : Byte) :
    (s.write x v).mem = if writable s.cfg x then s.mem.write x.toNat v else s.mem := rfl
@[simp] theorem State.write_cfg (s : State) (x : Word) (v : Byte) : (s.write x v).cfg = s.cfg := rfl
@[simp] theorem State.write_intSource (s : State) (x : Word) (v : Byte) : (s.write x v).intSource = s.intSource := rfl
@[simp] theorem State.write_portIn (s : State) (x : Word) (v : Byte) : (s.write x v).portIn = s.portIn := rfl
@[simp] theorem State.write_events (s : State) (x : Word) (v : Byte) : (s.write x v).events = s.events := rfl
@[simp] theorem State.write_draws (s : State) (x : Word) (v : Byte) : (s.write x v).draws = s.draws := rfl
@[simp] theorem State.write_pair_bc (s : State) (x : Word) (v : Byte) : (s.write x v).bc = s.bc := rfl
@[simp] theorem State.write_pair_de (s : State) (x : Word) (v : Byte) : (s.write x v).de = s.de := rfl
@[simp] theorem State.write_pair_hl (s : State) (x : Word) (v : Byte) : (s.write x v).hl = s.hl := rfl

/-! ## `State.goto` -/

@[simp] theorem State.goto_a (s : State) (x : Word) : (s.goto x).a = s.a := rfl
@[simp] theorem State.goto_f (s : State) (x : Word) : (s.goto x).f = s.f := rfl
@[simp] theorem State.goto_b (s : State) (x : Word) : (s.goto x).b = s.b := rfl
@[simp] theorem State.goto_c (s : State) (x : Word) : (s.goto x).c = s.c := rfl
@[simp] theorem State.goto_d (s : State) (x : Word) : (s.goto x).d = s.d := rfl
@[simp] theorem State.goto_e (s : State) (x : Word) : (s.goto x).e = s.e := rfl
@[simp] theorem State.goto_h (s : State) (x : Word) : (s.goto x).h = s.h := rfl
@[simp] theorem State.goto_l (s : State) (x : Word) : (s.goto x).l = s.l := rfl
@[simp] theorem State.goto_a_alt (s : State) (x : Word) : (s.goto x).a' = s.a' := rfl
@[simp] theorem State.goto_f_alt (s : State) (x : Word) : (s.goto x).f' = s.f' := rfl
@[simp] theorem State.goto_b_alt (s : State) (x : Word) : (s.goto x).b' = s.b' := rfl
@[simp] theorem State.goto_c_alt (s : State) (x : Word) : (s.goto x).c' = s.c' := rfl
@[simp] theorem State.goto_d_alt (s : State) (x : Word) : (s.goto x).d' = s.d' := rfl
@[simp] theorem State.goto_e_alt (s : State) (x : Word) : (s.goto x).e' = s.e' := rfl
@[simp] theorem State.goto_h_alt (s : State) (x : Word) : (s.goto x).h' = s.h' := rfl
@[simp] theorem State.goto_l_alt (s : State) (x : Word) : (s.goto x).l' = s.l' := rfl
@[simp] theorem State.goto_ix (s : State) (x : Word) : (s.goto x).ix = s.ix := rfl
@[simp] theorem State.goto_iy (s : State) (x : Word) : (s.goto x).iy = s.iy := rfl
@[simp] theorem State.goto_sp (s : State) (x : Word) : (s.goto x).sp = s.sp := rfl
@[simp] theorem State.goto_pc (s : State) (x : Word) : (s.goto x).pc = x := rfl
@[simp] theorem State.goto_i (s : State) (x : Word) : (s.goto x).i = s.i := rfl
@[simp] theorem State.goto_r (s : State) (x : Word) : (s.goto x).r = s.r := rfl
@[simp] theorem State.goto_iff1 (s : State) (x : Word) : (s.goto x).iff1 = s.iff1 := rfl
@[simp] theorem State.goto_iff2 (s : State) (x : Word) : (s.goto x).iff2 = s.iff2 := rfl
@[simp] theorem State.goto_im (s : State) (x : Word) : (s.goto x).im = s.im := rfl
@[simp] theorem State.goto_halted (s : State) (x : Word) : (s.goto x).halted = s.halted := rfl
@[simp] theorem State.goto_intInhibit (s : State) (x : Word) : (s.goto x).intInhibit = s.intInhibit := rfl
@[simp] theorem State.goto_diPending (s : State) (x : Word) : (s.goto x).diPending = s.diPending := rfl
@[simp] theorem State.goto_mem (s : State) (x : Word) : (s.goto x).mem = s.mem := rfl
@[simp] theorem State.goto_cfg (s : State) (x : Word) : (s.goto x).cfg = s.cfg := rfl
@[simp] theorem State.goto_intSource (s : State) (x : Word) : (s.goto x).intSource = s.intSource := rfl
@[simp] theorem State.goto_portIn (s : State) (x : Word) : (s.goto x).portIn = s.portIn := rfl
@[simp] theorem State.goto_events (s : State) (x : Word) : (s.goto x).events = s.events := rfl
@[simp] theorem State.goto_draws (s : State) (x : Word) : (s.goto x).draws = s.draws := rfl
@[simp] theorem State.goto_read (s : State) (x : Word) (y : Word) : (s.goto x).read y = s.read y := rfl
@[simp] theorem State.goto_pair_bc (s : State) (x : Word) : (s.goto x).bc = s.bc := rfl
@[simp] theorem State.goto_pair_de (s : State) (x : Word) : (s.goto x).de = s.de := rfl
@[simp] theorem State.goto_pair_hl (s : State) (x : Word) : (s.goto x).hl = s.hl := rfl

/-! ## `State.advance` -/

@[simp] theorem State.advance_a (s : State) (n : Nat) : (s.advance n).a = s.a := rfl
@[simp] theorem State.advance_f (s : State) (n : Nat) : (s.advance n).f = s.f := rfl
@[simp] theorem State.advance_b (s : State) (n : Nat) : (s.advance n).b = s.b := rfl
@[simp] theorem State.advance_c (s : State) (n : Nat) : (s.advance n).c = s.c := rfl
@[simp] theorem State.advance_d (s : State) (n : Nat) : (s.advance n).d = s.d := rfl
@[simp] theorem State.advance_e (s : State) (n : Nat) : (s.advance n).e = s.e := rfl
@[simp] theorem State.advance_h (s : State) (n : Nat) : (s.advance n).h = s.h := rfl
@[simp] theorem State.advance_l (s : State) (n : Nat) : (s.advance n).l = s.l := rfl
@[simp] theorem State.advance_a_alt (s : State) (n : Nat) : (s.advance n).a' = s.a' := rfl
@[simp] theorem State.advance_f_alt (s : State) (n : Nat) : (s.advance n).f' = s.f' := rfl
@[simp] theorem State.advance_b_alt (s : State) (n : Nat) : (s.advance n).b' = s.b' := rfl
@[simp] theorem State.advance_c_alt (s : State) (n : Nat) : (s.advance n).c' = s.c' := rfl
@[simp] theorem State.advance_d_alt (s : State) (n : Nat) : (s.advance n).d' = s.d' := rfl
@[simp] theorem State.advance_e_alt (s : State) (n : Nat) : (s.advance n).e' = s.e' := rfl
@[simp] theorem State.advance_h_alt (s : State) (n : Nat) : (s.advance n).h' = s.h' := rfl
@[simp] theorem State.advance_l_alt (s : State) (n : Nat) : (s.advance n).l' = s.l' := rfl
@[simp] theorem State.advance_ix (s : State) (n : Nat) : (s.advance n).ix = s.ix := rfl
@[simp] theorem State.advance_iy (s : State) (n : Nat) : (s.advance n).iy = s.iy := rfl
@[simp] theorem State.advance_sp (s : State) (n : Nat) : (s.advance n).sp = s.sp := rfl
@[simp] theorem State.advance_pc (s : State) (n : Nat) : (s.advance n).pc = s.npc n := rfl
@[simp] theorem State.advance_i (s : State) (n : Nat) : (s.advance n).i = s.i := rfl
@[simp] theorem State.advance_r (s : State) (n : Nat) : (s.advance n).r = s.r := rfl
@[simp] theorem State.advance_iff1 (s : State) (n : Nat) : (s.advance n).iff1 = s.iff1 := rfl
@[simp] theorem State.advance_iff2 (s : State) (n : Nat) : (s.advance n).iff2 = s.iff2 := rfl
@[simp] theorem State.advance_im (s : State) (n : Nat) : (s.advance n).im = s.im := rfl
@[simp] theorem State.advance_halted (s : State) (n : Nat) : (s.advance n).halted = s.halted := rfl
@[simp] theorem State.advance_intInhibit (s : State) (n : Nat) : (s.advance n).intInhibit = s.intInhibit := rfl
@[simp] theorem State.advance_diPending (s : State) (n : Nat) : (s.advance n).diPending = s.diPending := rfl
@[simp] theorem State.advance_mem (s : State) (n : Nat) : (s.advance n).mem = s.mem := rfl
@[simp] theorem State.advance_cfg (s : State) (n : Nat) : (s.advance n).cfg = s.cfg := rfl
@[simp] theorem State.advance_intSource (s : State) (n : Nat) : (s.advance n).intSource = s.intSource := rfl
@[simp] theorem State.advance_portIn (s : State) (n : Nat) : (s.advance n).portIn = s.portIn := rfl
@[simp] theorem State.advance_events (s : State) (n : Nat) : (s.advance n).events = s.events := rfl
@[simp] theorem State.advance_draws (s : State) (n : Nat) : (s.advance n).draws = s.draws := rfl
@[simp] theorem State.advance_read (s : State) (n : Nat) (y : Word) : (s.advance n).read y = s.read y := rfl
@[simp] theorem State.advance_pair_bc (s : State) (n : Nat) : (s.advance n).bc = s.bc := rfl
@[simp] theorem State.advance_pair_de (s : State) (n : Nat) : (s.advance n).de = s.de := rfl
@[simp] theorem State.advance_pair_hl (s : State) (n : Nat) : (s.advance n).hl = s.hl := rfl

/-! ## `State.drew` -/

@[simp] theorem State.drew_a (s : State) (n : Nat) : (s.drew n).a = s.a := rfl
@[simp] theorem State.drew_f (s : State) (n : Nat) : (s.drew n).f = s.f := rfl
@[simp] theorem State.drew_b (s : State) (n : Nat) : (s.drew n).b = s.b := rfl
@[simp] theorem State.drew_c (s : State) (n : Nat) : (s.drew n).c = s.c := rfl
@[simp] theorem State.drew_d (s : State) (n : Nat) : (s.drew n).d = s.d := rfl
@[simp] theorem State.drew_e (s : State) (n : Nat) : (s.drew n).e = s.e := rfl
@[simp] theorem State.drew_h (s : State) (n : Nat) : (s.drew n).h = s.h := rfl
@[simp] theorem State.drew_l (s : State) (n : Nat) : (s.drew n).l = s.l := rfl
@[simp] theorem State.drew_a_alt (s : State) (n : Nat) : (s.drew n).a' = s.a' := rfl
@[simp] theorem State.drew_f_alt (s : State) (n : Nat) : (s.drew n).f' = s.f' := rfl
@[simp] theorem State.drew_b_alt (s : State) (n : Nat) : (s.drew n).b' = s.b' := rfl
@[simp] theorem State.drew_c_alt (s : State) (n : Nat) : (s.drew n).c' = s.c' := rfl
@[simp] theorem State.drew_d_alt (s : State) (n : Nat) : (s.drew n).d' = s.d' := rfl
@[simp] theorem State.drew_e_alt (s : State) (n : Nat) : (s.drew n).e' = s.e' := rfl
@[simp] theorem State.drew_h_alt (s : State) (n : Nat) : (s.drew n).h' = s.h' := rfl
@[simp] theorem State.drew_l_alt (s : State) (n : Nat) : (s.drew n).l' = s.l' := rfl
@[simp] theorem State.drew_ix (s : State) (n : Nat) : (s.drew n).ix = s.ix := rfl
@[simp] theorem State.drew_iy (s : State) (n : Nat) : (s.drew n).iy = s.iy := rfl
@[simp] theorem State.drew_sp (s : State) (n : Nat) : (s.drew n).sp = s.sp := rfl
@[simp] theorem State.drew_pc (s : State) (n : Nat) : (s.drew n).pc = s.pc := rfl
@[simp] theorem State.drew_i (s : State) (n : Nat) : (s.drew n).i = s.i := rfl
@[simp] theorem State.drew_r (s : State) (n : Nat) : (s.drew n).r = s.r := rfl
@[simp] theorem State.drew_iff1 (s : State) (n : Nat) : (s.drew n).iff1 = s.iff1 := rfl
@[simp] theorem State.drew_iff2 (s : State) (n : Nat) : (s.drew n).iff2 = s.iff2 := rfl
@[simp] theorem State.drew_im (s : State) (n : Nat) : (s.drew n).im = s.im := rfl
@[simp] theorem State.drew_halted (s : State) (n : Nat) : (s.drew n).halted = s.halted := rfl
@[simp] theorem State.drew_intInhibit (s : State) (n : Nat) : (s.drew n).intInhibit = s.intInhibit := rfl
@[simp] theorem State.drew_diPending (s : State) (n : Nat) : (s.drew n).diPending = s.diPending := rfl
@[simp] theorem State.drew_mem (s : State) (n : Nat) : (s.drew n).mem = s.mem := rfl
@[simp] theorem State.drew_cfg (s : State) (n : Nat) : (s.drew n).cfg = s.cfg := rfl
@[simp] theorem State.drew_intSource (s : State) (n : Nat) : (s.drew n).intSource = s.intSource := rfl
@[simp] theorem State.drew_portIn (s : State) (n : Nat) : (s.drew n).portIn = s.portIn := rfl
@[simp] theorem State.drew_events (s : State) (n : Nat) : (s.drew n).events = s.events := rfl
@[simp] theorem State.drew_draws (s : State) (n : Nat) : (s.drew n).draws = s.draws + n := rfl
@[simp] theorem State.drew_read (s : State) (n : Nat) (y : Word) : (s.drew n).read y = s.read y := rfl
@[simp] theorem State.drew_pair_bc (s : State) (n : Nat) : (s.drew n).bc = s.bc := rfl
@[simp] theorem State.drew_pair_de (s : State) (n : Nat) : (s.drew n).de = s.de := rfl
@[simp] theorem State.drew_pair_hl (s : State) (n : Nat) : (s.drew n).hl = s.hl := rfl

/-! ## `State.event` -/

@[simp] theorem State.event_a (s : State) (x : Event) : (s.event x).a = s.a := rfl
@[simp] theorem State.event_f (s : State) (x : Event) : (s.event x).f = s.f := rfl
@[simp] theorem State.event_b (s : State) (x : Event) : (s.event x).b = s.b := rfl
@[simp] theorem State.event_c (s : State) (x : Event) : (s.event x).c = s.c := rfl
@[simp] theorem State.event_d (s : State) (x : Event) : (s.event x).d = s.d := rfl
@[simp] theorem State.event_e (s : State) (x : Event) : (s.event x).e = s.e := rfl
@[simp] theorem State.event_h (s : State) (x : Event) : (s.event x).h = s.h := rfl
@[simp] theorem State.event_l (s : State) (x : Event) : (s.event x).l = s.l := rfl
@[simp] theorem State.event_a_alt (s : State) (x : Event) : (s.event x).a' = s.a' := rfl
@[simp] theorem State.event_f_alt (s : State) (x : Event) : (s.event x).f' = s.f' := rfl
@[simp] theorem State.event_b_alt (s : State) (x : Event) : (s.event x).b' = s.b' := rfl
@[simp] theorem State.event_c_alt (s : State) (x : Event) : (s.event x).c' = s.c' := rfl
@[simp] theorem State.event_d_alt (s : State) (x : Event) : (s.event x).d' = s.d' := rfl
@[simp] theorem State.event_e_alt (s : State) (x : Event) : (s.event x).e' = s.e' := rfl
@[simp] theorem State.event_h_alt (s : State) (x : Event) : (s.event x).h' = s.h' := rfl
@[simp] theorem State.event_l_alt (s : State) (x : Event) : (s.event x).l' = s.l' := rfl
@[simp] theorem State.event_ix (s : State) (x : Event) : (s.event x).ix = s.ix := rfl
@[simp] theorem State.event_iy (s : State) (x : Event) : (s.event x).iy = s.iy := rfl
@[simp] theorem State.event_sp (s : State) (x : Event) : (s.event x).sp = s.sp := rfl
@[simp] theorem State.event_pc (s : State) (x : Event) : (s.event x).pc = s.pc := rfl
@[simp] theorem State.event_i (s : State) (x : Event) : (s.event x).i = s.i := rfl
@[simp] theorem State.event_r (s : State) (x : Event) : (s.event x).r = s.r := rfl
@[simp] theorem State.event_iff1 (s : State) (x : Event) : (s.event x).iff1 = s.iff1 := rfl
@[simp] theorem State.event_iff2 (s : State) (x : Event) : (s.event x).iff2 = s.iff2 := rfl
@[simp] theorem State.event_im (s : State) (x : Event) : (s.event x).im = s.im := rfl
@[simp] theorem State.event_halted (s : State) (x : Event) : (s.event x).halted = s.halted := rfl
@[simp] theorem State.event_intInhibit (s : State) (x : Event) : (s.event x).intInhibit = s.intInhibit := rfl
@[simp] theorem State.event_diPending (s : State) (x : Event) : (s.event x).diPending = s.diPending := rfl
@[simp] theorem State.event_mem (s : State) (x : Event) : (s.event x).mem = s.mem := rfl
@[simp] theorem State.event_cfg (s : State) (x : Event) : (s.event x).cfg = s.cfg := rfl
@[simp] theorem State.event_intSource (s : State) (x : Event) : (s.event x).intSource = s.intSource := rfl
@[simp] theorem State.event_portIn (s : State) (x : Event) : (s.event x).portIn = s.portIn := rfl
@[simp] theorem State.event_events (s : State) (x : Event) : (s.event x).events = s.events ++ [x] := rfl
@[simp] theorem State.event_draws (s : State) (x : Event) : (s.event x).draws = s.draws := rfl
@[simp] theorem State.event_read (s : State) (x : Event) (y : Word) : (s.event x).read y = s.read y := rfl
@[simp] theorem State.event_pair_bc (s : State) (x : Event) : (s.event x).bc = s.bc := rfl
@[simp] theorem State.event_pair_de (s : State) (x : Event) : (s.event x).de = s.de := rfl
@[simp] theorem State.event_pair_hl (s : State) (x : Event) : (s.event x).hl = s.hl := rfl

/-! ## `State.portRead` -/

@[simp] theorem State.portRead_a (s : State) (x : Word) : (s.portRead x).a = s.a := rfl
@[simp] theorem State.portRead_f (s : State) (x : Word) : (s.portRead x).f = s.f := rfl
@[simp] theorem State.portRead_b (s : State) (x : Word) : (s.portRead x).b = s.b := rfl
@[simp] theorem State.portRead_c (s : State) (x : Word) : (s.portRead x).c = s.c := rfl
@[simp] theorem State.portRead_d (s : State) (x : Word) : (s.portRead x).d = s.d := rfl
@[simp] theorem State.portRead_e (s : State) (x : Word) : (s.portRead x).e = s.e := rfl
@[simp] theorem State.portRead_h (s : State) (x : Word) : (s.portRead x).h = s.h := rfl
@[simp] theorem State.portRead_l (s : State) (x : Word) : (s.portRead x).l = s.l := rfl
@[simp] theorem State.portRead_a_alt (s : State) (x : Word) : (s.portRead x).a' = s.a' := rfl
@[simp] theorem State.portRead_f_alt (s : State) (x : Word) : (s.portRead x).f' = s.f' := rfl
@[simp] theorem State.portRead_b_alt (s : State) (x : Word) : (s.portRead x).b' = s.b' := rfl
@[simp] theorem State.portRead_c_alt (s : State) (x : Word) : (s.portRead x).c' = s.c' := rfl
@[simp] theorem State.portRead_d_alt (s : State) (x : Word) : (s.portRead x).d' = s.d' := rfl
@[simp] theorem State.portRead_e_alt (s : State) (x : Word) : (s.portRead x).e' = s.e' := rfl
@[simp] theorem State.portRead_h_alt (s : State) (x : Word) : (s.portRead x).h' = s.h' := rfl
@[simp] theorem State.portRead_l_alt (s : State) (x : Word) : (s.portRead x).l' = s.l' := rfl
@[simp] theorem State.portRead_ix (s : State) (x : Word) : (s.portRead x).ix = s.ix := rfl
@[simp] theorem State.portRead_iy (s : State) (x : Word) : (s.portRead x).iy = s.iy := rfl
@[simp] theorem State.portRead_sp (s : State) (x : Word) : (s.portRead x).sp = s.sp := rfl
@[simp] theorem State.portRead_pc (s : State) (x : Word) : (s.portRead x).pc = s.pc := rfl
@[simp] theorem State.portRead_i (s : State) (x : Word) : (s.portRead x).i = s.i := rfl
@[simp] theorem State.portRead_r (s : State) (x : Word) : (s.portRead x).r = s.r := rfl
@[simp] theorem State.portRead_iff1 (s : State) (x : Word) : (s.portRead x).iff1 = s.iff1 := rfl
@[simp] theorem State.portRead_iff2 (s : State) (x : Word) : (s.portRead x).iff2 = s.iff2 := rfl
@[simp] theorem State.portRead_im (s : State) (x : Word) : (s.portRead x).im = s.im := rfl
@[simp] theorem State.portRead_halted (s : State) (x : Word) : (s.portRead x).halted = s.halted := rfl
@[simp] theorem State.portRead_intInhibit (s : State) (x : Word) : (s.portRead x).intInhibit = s.intInhibit := rfl
@[simp] theorem State.portRead_diPending (s : State) (x : Word) : (s.portRead x).diPending = s.diPending := rfl
@[simp] theorem State.portRead_mem (s : State) (x : Word) : (s.portRead x).mem = s.mem := rfl
@[simp] theorem State.portRead_cfg (s : State) (x : Word) : (s.portRead x).cfg = s.cfg := rfl
@[simp] theorem State.portRead_intSource (s : State) (x : Word) : (s.portRead x).intSource = s.intSource := rfl
@[simp] theorem State.portRead_portIn (s : State) (x : Word) : (s.portRead x).portIn = s.portIn.tail := rfl
@[simp] theorem State.portRead_events (s : State) (x : Word) :
    (s.portRead x).events = s.events ++ [.portRead x (s.portAnswer x)] := rfl
@[simp] theorem State.portRead_draws (s : State) (x : Word) : (s.portRead x).draws = s.draws + 1 := rfl
@[simp] theorem State.portRead_read (s : State) (x : Word) (y : Word) : (s.portRead x).read y = s.read y := rfl
@[simp] theorem State.portRead_pair_bc (s : State) (x : Word) : (s.portRead x).bc = s.bc := rfl
@[simp] theorem State.portRead_pair_de (s : State) (x : Word) : (s.portRead x).de = s.de := rfl
@[simp] theorem State.portRead_pair_hl (s : State) (x : Word) : (s.portRead x).hl = s.hl := rfl

/-! ## `State.portWrite` -/

@[simp] theorem State.portWrite_a (s : State) (x : Word) (v : Byte) : (s.portWrite x v).a = s.a := rfl
@[simp] theorem State.portWrite_f (s : State) (x : Word) (v : Byte) : (s.portWrite x v).f = s.f := rfl
@[simp] theorem State.portWrite_b (s : State) (x : Word) (v : Byte) : (s.portWrite x v).b = s.b := rfl
@[simp] theorem State.portWrite_c (s : State) (x : Word) (v : Byte) : (s.portWrite x v).c = s.c := rfl
@[simp] theorem State.portWrite_d (s : State) (x : Word) (v : Byte) : (s.portWrite x v).d = s.d := rfl
@[simp] theorem State.portWrite_e (s : State) (x : Word) (v : Byte) : (s.portWrite x v).e = s.e := rfl
@[simp] theorem State.portWrite_h (s : State) (x : Word) (v : Byte) : (s.portWrite x v).h = s.h := rfl
@[simp] theorem State.portWrite_l (s : State) (x : Word) (v : Byte) : (s.portWrite x v).l = s.l := rfl
@[simp] theorem State.portWrite_a_alt (s : State) (x : Word) (v : Byte) : (s.portWrite x v).a' = s.a' := rfl
@[simp] theorem State.portWrite_f_alt (s : State) (x : Word) (v : Byte) : (s.portWrite x v).f' = s.f' := rfl
@[simp] theorem State.portWrite_b_alt (s : State) (x : Word) (v : Byte) : (s.portWrite x v).b' = s.b' := rfl
@[simp] theorem State.portWrite_c_alt (s : State) (x : Word) (v : Byte) : (s.portWrite x v).c' = s.c' := rfl
@[simp] theorem State.portWrite_d_alt (s : State) (x : Word) (v : Byte) : (s.portWrite x v).d' = s.d' := rfl
@[simp] theorem State.portWrite_e_alt (s : State) (x : Word) (v : Byte) : (s.portWrite x v).e' = s.e' := rfl
@[simp] theorem State.portWrite_h_alt (s : State) (x : Word) (v : Byte) : (s.portWrite x v).h' = s.h' := rfl
@[simp] theorem State.portWrite_l_alt (s : State) (x : Word) (v : Byte) : (s.portWrite x v).l' = s.l' := rfl
@[simp] theorem State.portWrite_ix (s : State) (x : Word) (v : Byte) : (s.portWrite x v).ix = s.ix := rfl
@[simp] theorem State.portWrite_iy (s : State) (x : Word) (v : Byte) : (s.portWrite x v).iy = s.iy := rfl
@[simp] theorem State.portWrite_sp (s : State) (x : Word) (v : Byte) : (s.portWrite x v).sp = s.sp := rfl
@[simp] theorem State.portWrite_pc (s : State) (x : Word) (v : Byte) : (s.portWrite x v).pc = s.pc := rfl
@[simp] theorem State.portWrite_i (s : State) (x : Word) (v : Byte) : (s.portWrite x v).i = s.i := rfl
@[simp] theorem State.portWrite_r (s : State) (x : Word) (v : Byte) : (s.portWrite x v).r = s.r := rfl
@[simp] theorem State.portWrite_iff1 (s : State) (x : Word) (v : Byte) : (s.portWrite x v).iff1 = s.iff1 := rfl
@[simp] theorem State.portWrite_iff2 (s : State) (x : Word) (v : Byte) : (s.portWrite x v).iff2 = s.iff2 := rfl
@[simp] theorem State.portWrite_im (s : State) (x : Word) (v : Byte) : (s.portWrite x v).im = s.im := rfl
@[simp] theorem State.portWrite_halted (s : State) (x : Word) (v : Byte) : (s.portWrite x v).halted = s.halted := rfl
@[simp] theorem State.portWrite_intInhibit (s : State) (x : Word) (v : Byte) :
    (s.portWrite x v).intInhibit = s.intInhibit := rfl
@[simp] theorem State.portWrite_diPending (s : State) (x : Word) (v : Byte) :
    (s.portWrite x v).diPending = s.diPending := rfl
@[simp] theorem State.portWrite_mem (s : State) (x : Word) (v : Byte) : (s.portWrite x v).mem = s.mem := rfl
@[simp] theorem State.portWrite_cfg (s : State) (x : Word) (v : Byte) : (s.portWrite x v).cfg = s.cfg := rfl
@[simp] theorem State.portWrite_intSource (s : State) (x : Word) (v : Byte) :
    (s.portWrite x v).intSource = s.intSource := rfl
@[simp] theorem State.portWrite_portIn (s : State) (x : Word) (v : Byte) : (s.portWrite x v).portIn = s.portIn := rfl
@[simp] theorem State.portWrite_events (s : State) (x : Word) (v : Byte) :
    (s.portWrite x v).events = s.events ++ [.portWrite x v] := rfl
@[simp] theorem State.portWrite_draws (s : State) (x : Word) (v : Byte) : (s.portWrite x v).draws = s.draws := rfl
@[simp] theorem State.portWrite_read (s : State) (x : Word) (v : Byte) (y : Word) : (s.portWrite x v).read y = s.read y := rfl
@[simp] theorem State.portWrite_pair_bc (s : State) (x : Word) (v : Byte) : (s.portWrite x v).bc = s.bc := rfl
@[simp] theorem State.portWrite_pair_de (s : State) (x : Word) (v : Byte) : (s.portWrite x v).de = s.de := rfl
@[simp] theorem State.portWrite_pair_hl (s : State) (x : Word) (v : Byte) : (s.portWrite x v).hl = s.hl := rfl

/-! ## `State.nextRegWrite` -/

@[simp] theorem State.nextRegWrite_a (s : State) (g v : Byte) : (s.nextRegWrite g v).a = s.a := rfl
@[simp] theorem State.nextRegWrite_f (s : State) (g v : Byte) : (s.nextRegWrite g v).f = s.f := rfl
@[simp] theorem State.nextRegWrite_b (s : State) (g v : Byte) : (s.nextRegWrite g v).b = s.b := rfl
@[simp] theorem State.nextRegWrite_c (s : State) (g v : Byte) : (s.nextRegWrite g v).c = s.c := rfl
@[simp] theorem State.nextRegWrite_d (s : State) (g v : Byte) : (s.nextRegWrite g v).d = s.d := rfl
@[simp] theorem State.nextRegWrite_e (s : State) (g v : Byte) : (s.nextRegWrite g v).e = s.e := rfl
@[simp] theorem State.nextRegWrite_h (s : State) (g v : Byte) : (s.nextRegWrite g v).h = s.h := rfl
@[simp] theorem State.nextRegWrite_l (s : State) (g v : Byte) : (s.nextRegWrite g v).l = s.l := rfl
@[simp] theorem State.nextRegWrite_a_alt (s : State) (g v : Byte) : (s.nextRegWrite g v).a' = s.a' := rfl
@[simp] theorem State.nextRegWrite_f_alt (s : State) (g v : Byte) : (s.nextRegWrite g v).f' = s.f' := rfl
@[simp] theorem State.nextRegWrite_b_alt (s : State) (g v : Byte) : (s.nextRegWrite g v).b' = s.b' := rfl
@[simp] theorem State.nextRegWrite_c_alt (s : State) (g v : Byte) : (s.nextRegWrite g v).c' = s.c' := rfl
@[simp] theorem State.nextRegWrite_d_alt (s : State) (g v : Byte) : (s.nextRegWrite g v).d' = s.d' := rfl
@[simp] theorem State.nextRegWrite_e_alt (s : State) (g v : Byte) : (s.nextRegWrite g v).e' = s.e' := rfl
@[simp] theorem State.nextRegWrite_h_alt (s : State) (g v : Byte) : (s.nextRegWrite g v).h' = s.h' := rfl
@[simp] theorem State.nextRegWrite_l_alt (s : State) (g v : Byte) : (s.nextRegWrite g v).l' = s.l' := rfl
@[simp] theorem State.nextRegWrite_ix (s : State) (g v : Byte) : (s.nextRegWrite g v).ix = s.ix := rfl
@[simp] theorem State.nextRegWrite_iy (s : State) (g v : Byte) : (s.nextRegWrite g v).iy = s.iy := rfl
@[simp] theorem State.nextRegWrite_sp (s : State) (g v : Byte) : (s.nextRegWrite g v).sp = s.sp := rfl
@[simp] theorem State.nextRegWrite_pc (s : State) (g v : Byte) : (s.nextRegWrite g v).pc = s.pc := rfl
@[simp] theorem State.nextRegWrite_i (s : State) (g v : Byte) : (s.nextRegWrite g v).i = s.i := rfl
@[simp] theorem State.nextRegWrite_r (s : State) (g v : Byte) : (s.nextRegWrite g v).r = s.r := rfl
@[simp] theorem State.nextRegWrite_iff1 (s : State) (g v : Byte) : (s.nextRegWrite g v).iff1 = s.iff1 := rfl
@[simp] theorem State.nextRegWrite_iff2 (s : State) (g v : Byte) : (s.nextRegWrite g v).iff2 = s.iff2 := rfl
@[simp] theorem State.nextRegWrite_im (s : State) (g v : Byte) : (s.nextRegWrite g v).im = s.im := rfl
@[simp] theorem State.nextRegWrite_halted (s : State) (g v : Byte) : (s.nextRegWrite g v).halted = s.halted := rfl
@[simp] theorem State.nextRegWrite_intInhibit (s : State) (g v : Byte) :
    (s.nextRegWrite g v).intInhibit = s.intInhibit := rfl
@[simp] theorem State.nextRegWrite_diPending (s : State) (g v : Byte) :
    (s.nextRegWrite g v).diPending = s.diPending := rfl
@[simp] theorem State.nextRegWrite_mem (s : State) (g v : Byte) : (s.nextRegWrite g v).mem = s.mem := rfl
@[simp] theorem State.nextRegWrite_cfg (s : State) (g v : Byte) : (s.nextRegWrite g v).cfg = s.cfg := rfl
@[simp] theorem State.nextRegWrite_intSource (s : State) (g v : Byte) :
    (s.nextRegWrite g v).intSource = s.intSource := rfl
@[simp] theorem State.nextRegWrite_portIn (s : State) (g v : Byte) : (s.nextRegWrite g v).portIn = s.portIn := rfl
@[simp] theorem State.nextRegWrite_events (s : State) (g v : Byte) :
    (s.nextRegWrite g v).events = s.events ++ [.nextRegWrite g v] := rfl
@[simp] theorem State.nextRegWrite_draws (s : State) (g v : Byte) : (s.nextRegWrite g v).draws = s.draws := rfl
@[simp] theorem State.nextRegWrite_read (s : State) (g v : Byte) (y : Word) : (s.nextRegWrite g v).read y = s.read y := rfl
@[simp] theorem State.nextRegWrite_pair_bc (s : State) (g v : Byte) : (s.nextRegWrite g v).bc = s.bc := rfl
@[simp] theorem State.nextRegWrite_pair_de (s : State) (g v : Byte) : (s.nextRegWrite g v).de = s.de := rfl
@[simp] theorem State.nextRegWrite_pair_hl (s : State) (g v : Byte) : (s.nextRegWrite g v).hl = s.hl := rfl

/-! ## `State.popped` -/

@[simp] theorem State.popped_a (s : State) : (s.popped).a = s.a := rfl
@[simp] theorem State.popped_f (s : State) : (s.popped).f = s.f := rfl
@[simp] theorem State.popped_b (s : State) : (s.popped).b = s.b := rfl
@[simp] theorem State.popped_c (s : State) : (s.popped).c = s.c := rfl
@[simp] theorem State.popped_d (s : State) : (s.popped).d = s.d := rfl
@[simp] theorem State.popped_e (s : State) : (s.popped).e = s.e := rfl
@[simp] theorem State.popped_h (s : State) : (s.popped).h = s.h := rfl
@[simp] theorem State.popped_l (s : State) : (s.popped).l = s.l := rfl
@[simp] theorem State.popped_a_alt (s : State) : (s.popped).a' = s.a' := rfl
@[simp] theorem State.popped_f_alt (s : State) : (s.popped).f' = s.f' := rfl
@[simp] theorem State.popped_b_alt (s : State) : (s.popped).b' = s.b' := rfl
@[simp] theorem State.popped_c_alt (s : State) : (s.popped).c' = s.c' := rfl
@[simp] theorem State.popped_d_alt (s : State) : (s.popped).d' = s.d' := rfl
@[simp] theorem State.popped_e_alt (s : State) : (s.popped).e' = s.e' := rfl
@[simp] theorem State.popped_h_alt (s : State) : (s.popped).h' = s.h' := rfl
@[simp] theorem State.popped_l_alt (s : State) : (s.popped).l' = s.l' := rfl
@[simp] theorem State.popped_ix (s : State) : (s.popped).ix = s.ix := rfl
@[simp] theorem State.popped_iy (s : State) : (s.popped).iy = s.iy := rfl
@[simp] theorem State.popped_sp (s : State) : (s.popped).sp = s.sp + 2 := rfl
@[simp] theorem State.popped_pc (s : State) : (s.popped).pc = s.pc := rfl
@[simp] theorem State.popped_i (s : State) : (s.popped).i = s.i := rfl
@[simp] theorem State.popped_r (s : State) : (s.popped).r = s.r := rfl
@[simp] theorem State.popped_iff1 (s : State) : (s.popped).iff1 = s.iff1 := rfl
@[simp] theorem State.popped_iff2 (s : State) : (s.popped).iff2 = s.iff2 := rfl
@[simp] theorem State.popped_im (s : State) : (s.popped).im = s.im := rfl
@[simp] theorem State.popped_halted (s : State) : (s.popped).halted = s.halted := rfl
@[simp] theorem State.popped_intInhibit (s : State) : (s.popped).intInhibit = s.intInhibit := rfl
@[simp] theorem State.popped_diPending (s : State) : (s.popped).diPending = s.diPending := rfl
@[simp] theorem State.popped_mem (s : State) : (s.popped).mem = s.mem := rfl
@[simp] theorem State.popped_cfg (s : State) : (s.popped).cfg = s.cfg := rfl
@[simp] theorem State.popped_intSource (s : State) : (s.popped).intSource = s.intSource := rfl
@[simp] theorem State.popped_portIn (s : State) : (s.popped).portIn = s.portIn := rfl
@[simp] theorem State.popped_events (s : State) : (s.popped).events = s.events := rfl
@[simp] theorem State.popped_draws (s : State) : (s.popped).draws = s.draws := rfl
@[simp] theorem State.popped_read (s : State) (y : Word) : (s.popped).read y = s.read y := rfl
@[simp] theorem State.popped_pair_bc (s : State) : (s.popped).bc = s.bc := rfl
@[simp] theorem State.popped_pair_de (s : State) : (s.popped).de = s.de := rfl
@[simp] theorem State.popped_pair_hl (s : State) : (s.popped).hl = s.hl := rfl

/-! ## `State.leave` -/

@[simp] theorem State.leave_a (s : State) : (s.leave).a = s.a := rfl
@[simp] theorem State.leave_f (s : State) : (s.leave).f = s.f := rfl
@[simp] theorem State.leave_b (s : State) : (s.leave).b = s.b := rfl
@[simp] theorem State.leave_c (s : State) : (s.leave).c = s.c := rfl
@[simp] theorem State.leave_d (s : State) : (s.leave).d = s.d := rfl
@[simp] theorem State.leave_e (s : State) : (s.leave).e = s.e := rfl
@[simp] theorem State.leave_h (s : State) : (s.leave).h = s.h := rfl
@[simp] theorem State.leave_l (s : State) : (s.leave).l = s.l := rfl
@[simp] theorem State.leave_a_alt (s : State) : (s.leave).a' = s.a' := rfl
@[simp] theorem State.leave_f_alt (s : State) : (s.leave).f' = s.f' := rfl
@[simp] theorem State.leave_b_alt (s : State) : (s.leave).b' = s.b' := rfl
@[simp] theorem State.leave_c_alt (s : State) : (s.leave).c' = s.c' := rfl
@[simp] theorem State.leave_d_alt (s : State) : (s.leave).d' = s.d' := rfl
@[simp] theorem State.leave_e_alt (s : State) : (s.leave).e' = s.e' := rfl
@[simp] theorem State.leave_h_alt (s : State) : (s.leave).h' = s.h' := rfl
@[simp] theorem State.leave_l_alt (s : State) : (s.leave).l' = s.l' := rfl
@[simp] theorem State.leave_ix (s : State) : (s.leave).ix = s.ix := rfl
@[simp] theorem State.leave_iy (s : State) : (s.leave).iy = s.iy := rfl
@[simp] theorem State.leave_sp (s : State) : (s.leave).sp = s.sp + 2 := rfl
@[simp] theorem State.leave_pc (s : State) : (s.leave).pc = s.top := rfl
@[simp] theorem State.leave_i (s : State) : (s.leave).i = s.i := rfl
@[simp] theorem State.leave_r (s : State) : (s.leave).r = s.r := rfl
@[simp] theorem State.leave_iff1 (s : State) : (s.leave).iff1 = s.iff1 := rfl
@[simp] theorem State.leave_iff2 (s : State) : (s.leave).iff2 = s.iff2 := rfl
@[simp] theorem State.leave_im (s : State) : (s.leave).im = s.im := rfl
@[simp] theorem State.leave_halted (s : State) : (s.leave).halted = s.halted := rfl
@[simp] theorem State.leave_intInhibit (s : State) : (s.leave).intInhibit = s.intInhibit := rfl
@[simp] theorem State.leave_diPending (s : State) : (s.leave).diPending = s.diPending := rfl
@[simp] theorem State.leave_mem (s : State) : (s.leave).mem = s.mem := rfl
@[simp] theorem State.leave_cfg (s : State) : (s.leave).cfg = s.cfg := rfl
@[simp] theorem State.leave_intSource (s : State) : (s.leave).intSource = s.intSource := rfl
@[simp] theorem State.leave_portIn (s : State) : (s.leave).portIn = s.portIn := rfl
@[simp] theorem State.leave_events (s : State) : (s.leave).events = s.events := rfl
@[simp] theorem State.leave_draws (s : State) : (s.leave).draws = s.draws := rfl
@[simp] theorem State.leave_read (s : State) (y : Word) : (s.leave).read y = s.read y := rfl
@[simp] theorem State.leave_pair_bc (s : State) : (s.leave).bc = s.bc := rfl
@[simp] theorem State.leave_pair_de (s : State) : (s.leave).de = s.de := rfl
@[simp] theorem State.leave_pair_hl (s : State) : (s.leave).hl = s.hl := rfl

/-! ## `State.setFlags` -/

@[simp] theorem State.setFlags_a (s : State) (n : Named) : (s.setFlags n).a = s.a := rfl
@[simp] theorem State.setFlags_f (s : State) (n : Named) :
    (s.setFlags n).f =
    { sf := n.sf, zf := n.zf, f5 := Config.freeBit s.draws, hf := n.hf
      f3 := Config.freeBit (s.draws + 1), pv := n.pv, nf := n.nf, cf := n.cf } := rfl
@[simp] theorem State.setFlags_b (s : State) (n : Named) : (s.setFlags n).b = s.b := rfl
@[simp] theorem State.setFlags_c (s : State) (n : Named) : (s.setFlags n).c = s.c := rfl
@[simp] theorem State.setFlags_d (s : State) (n : Named) : (s.setFlags n).d = s.d := rfl
@[simp] theorem State.setFlags_e (s : State) (n : Named) : (s.setFlags n).e = s.e := rfl
@[simp] theorem State.setFlags_h (s : State) (n : Named) : (s.setFlags n).h = s.h := rfl
@[simp] theorem State.setFlags_l (s : State) (n : Named) : (s.setFlags n).l = s.l := rfl
@[simp] theorem State.setFlags_a_alt (s : State) (n : Named) : (s.setFlags n).a' = s.a' := rfl
@[simp] theorem State.setFlags_f_alt (s : State) (n : Named) : (s.setFlags n).f' = s.f' := rfl
@[simp] theorem State.setFlags_b_alt (s : State) (n : Named) : (s.setFlags n).b' = s.b' := rfl
@[simp] theorem State.setFlags_c_alt (s : State) (n : Named) : (s.setFlags n).c' = s.c' := rfl
@[simp] theorem State.setFlags_d_alt (s : State) (n : Named) : (s.setFlags n).d' = s.d' := rfl
@[simp] theorem State.setFlags_e_alt (s : State) (n : Named) : (s.setFlags n).e' = s.e' := rfl
@[simp] theorem State.setFlags_h_alt (s : State) (n : Named) : (s.setFlags n).h' = s.h' := rfl
@[simp] theorem State.setFlags_l_alt (s : State) (n : Named) : (s.setFlags n).l' = s.l' := rfl
@[simp] theorem State.setFlags_ix (s : State) (n : Named) : (s.setFlags n).ix = s.ix := rfl
@[simp] theorem State.setFlags_iy (s : State) (n : Named) : (s.setFlags n).iy = s.iy := rfl
@[simp] theorem State.setFlags_sp (s : State) (n : Named) : (s.setFlags n).sp = s.sp := rfl
@[simp] theorem State.setFlags_pc (s : State) (n : Named) : (s.setFlags n).pc = s.pc := rfl
@[simp] theorem State.setFlags_i (s : State) (n : Named) : (s.setFlags n).i = s.i := rfl
@[simp] theorem State.setFlags_r (s : State) (n : Named) : (s.setFlags n).r = s.r := rfl
@[simp] theorem State.setFlags_iff1 (s : State) (n : Named) : (s.setFlags n).iff1 = s.iff1 := rfl
@[simp] theorem State.setFlags_iff2 (s : State) (n : Named) : (s.setFlags n).iff2 = s.iff2 := rfl
@[simp] theorem State.setFlags_im (s : State) (n : Named) : (s.setFlags n).im = s.im := rfl
@[simp] theorem State.setFlags_halted (s : State) (n : Named) : (s.setFlags n).halted = s.halted := rfl
@[simp] theorem State.setFlags_intInhibit (s : State) (n : Named) : (s.setFlags n).intInhibit = s.intInhibit := rfl
@[simp] theorem State.setFlags_diPending (s : State) (n : Named) : (s.setFlags n).diPending = s.diPending := rfl
@[simp] theorem State.setFlags_mem (s : State) (n : Named) : (s.setFlags n).mem = s.mem := rfl
@[simp] theorem State.setFlags_cfg (s : State) (n : Named) : (s.setFlags n).cfg = s.cfg := rfl
@[simp] theorem State.setFlags_intSource (s : State) (n : Named) : (s.setFlags n).intSource = s.intSource := rfl
@[simp] theorem State.setFlags_portIn (s : State) (n : Named) : (s.setFlags n).portIn = s.portIn := rfl
@[simp] theorem State.setFlags_events (s : State) (n : Named) : (s.setFlags n).events = s.events := rfl
@[simp] theorem State.setFlags_draws (s : State) (n : Named) : (s.setFlags n).draws = s.draws + 2 := rfl
@[simp] theorem State.setFlags_read (s : State) (n : Named) (y : Word) : (s.setFlags n).read y = s.read y := rfl
@[simp] theorem State.setFlags_pair_bc (s : State) (n : Named) : (s.setFlags n).bc = s.bc := rfl
@[simp] theorem State.setFlags_pair_de (s : State) (n : Named) : (s.setFlags n).de = s.de := rfl
@[simp] theorem State.setFlags_pair_hl (s : State) (n : Named) : (s.setFlags n).hl = s.hl := rfl

/-! ## `State.freeFlags` -/

@[simp] theorem State.freeFlags_a (s : State) : (s.freeFlags).a = s.a := rfl
@[simp] theorem State.freeFlags_f (s : State) : (s.freeFlags).f = Flags.drawn s.draws := rfl
@[simp] theorem State.freeFlags_b (s : State) : (s.freeFlags).b = s.b := rfl
@[simp] theorem State.freeFlags_c (s : State) : (s.freeFlags).c = s.c := rfl
@[simp] theorem State.freeFlags_d (s : State) : (s.freeFlags).d = s.d := rfl
@[simp] theorem State.freeFlags_e (s : State) : (s.freeFlags).e = s.e := rfl
@[simp] theorem State.freeFlags_h (s : State) : (s.freeFlags).h = s.h := rfl
@[simp] theorem State.freeFlags_l (s : State) : (s.freeFlags).l = s.l := rfl
@[simp] theorem State.freeFlags_a_alt (s : State) : (s.freeFlags).a' = s.a' := rfl
@[simp] theorem State.freeFlags_f_alt (s : State) : (s.freeFlags).f' = s.f' := rfl
@[simp] theorem State.freeFlags_b_alt (s : State) : (s.freeFlags).b' = s.b' := rfl
@[simp] theorem State.freeFlags_c_alt (s : State) : (s.freeFlags).c' = s.c' := rfl
@[simp] theorem State.freeFlags_d_alt (s : State) : (s.freeFlags).d' = s.d' := rfl
@[simp] theorem State.freeFlags_e_alt (s : State) : (s.freeFlags).e' = s.e' := rfl
@[simp] theorem State.freeFlags_h_alt (s : State) : (s.freeFlags).h' = s.h' := rfl
@[simp] theorem State.freeFlags_l_alt (s : State) : (s.freeFlags).l' = s.l' := rfl
@[simp] theorem State.freeFlags_ix (s : State) : (s.freeFlags).ix = s.ix := rfl
@[simp] theorem State.freeFlags_iy (s : State) : (s.freeFlags).iy = s.iy := rfl
@[simp] theorem State.freeFlags_sp (s : State) : (s.freeFlags).sp = s.sp := rfl
@[simp] theorem State.freeFlags_pc (s : State) : (s.freeFlags).pc = s.pc := rfl
@[simp] theorem State.freeFlags_i (s : State) : (s.freeFlags).i = s.i := rfl
@[simp] theorem State.freeFlags_r (s : State) : (s.freeFlags).r = s.r := rfl
@[simp] theorem State.freeFlags_iff1 (s : State) : (s.freeFlags).iff1 = s.iff1 := rfl
@[simp] theorem State.freeFlags_iff2 (s : State) : (s.freeFlags).iff2 = s.iff2 := rfl
@[simp] theorem State.freeFlags_im (s : State) : (s.freeFlags).im = s.im := rfl
@[simp] theorem State.freeFlags_halted (s : State) : (s.freeFlags).halted = s.halted := rfl
@[simp] theorem State.freeFlags_intInhibit (s : State) : (s.freeFlags).intInhibit = s.intInhibit := rfl
@[simp] theorem State.freeFlags_diPending (s : State) : (s.freeFlags).diPending = s.diPending := rfl
@[simp] theorem State.freeFlags_mem (s : State) : (s.freeFlags).mem = s.mem := rfl
@[simp] theorem State.freeFlags_cfg (s : State) : (s.freeFlags).cfg = s.cfg := rfl
@[simp] theorem State.freeFlags_intSource (s : State) : (s.freeFlags).intSource = s.intSource := rfl
@[simp] theorem State.freeFlags_portIn (s : State) : (s.freeFlags).portIn = s.portIn := rfl
@[simp] theorem State.freeFlags_events (s : State) : (s.freeFlags).events = s.events := rfl
@[simp] theorem State.freeFlags_draws (s : State) : (s.freeFlags).draws = s.draws + 8 := rfl
@[simp] theorem State.freeFlags_read (s : State) (y : Word) : (s.freeFlags).read y = s.read y := rfl
@[simp] theorem State.freeFlags_pair_bc (s : State) : (s.freeFlags).bc = s.bc := rfl
@[simp] theorem State.freeFlags_pair_de (s : State) : (s.freeFlags).de = s.de := rfl
@[simp] theorem State.freeFlags_pair_hl (s : State) : (s.freeFlags).hl = s.hl := rfl

/-! ## `State.freeCarry` -/

@[simp] theorem State.freeCarry_a (s : State) : (s.freeCarry).a = s.a := rfl
@[simp] theorem State.freeCarry_f (s : State) :
    (s.freeCarry).f =
    { s.f with
      f5 := if s.cfg.addAKeepsUnnamed then s.f.f5 else Config.freeBit (s.draws + 1)
      f3 := if s.cfg.addAKeepsUnnamed then s.f.f3 else Config.freeBit (s.draws + 2)
      cf := s.drawnBit } := rfl
@[simp] theorem State.freeCarry_b (s : State) : (s.freeCarry).b = s.b := rfl
@[simp] theorem State.freeCarry_c (s : State) : (s.freeCarry).c = s.c := rfl
@[simp] theorem State.freeCarry_d (s : State) : (s.freeCarry).d = s.d := rfl
@[simp] theorem State.freeCarry_e (s : State) : (s.freeCarry).e = s.e := rfl
@[simp] theorem State.freeCarry_h (s : State) : (s.freeCarry).h = s.h := rfl
@[simp] theorem State.freeCarry_l (s : State) : (s.freeCarry).l = s.l := rfl
@[simp] theorem State.freeCarry_a_alt (s : State) : (s.freeCarry).a' = s.a' := rfl
@[simp] theorem State.freeCarry_f_alt (s : State) : (s.freeCarry).f' = s.f' := rfl
@[simp] theorem State.freeCarry_b_alt (s : State) : (s.freeCarry).b' = s.b' := rfl
@[simp] theorem State.freeCarry_c_alt (s : State) : (s.freeCarry).c' = s.c' := rfl
@[simp] theorem State.freeCarry_d_alt (s : State) : (s.freeCarry).d' = s.d' := rfl
@[simp] theorem State.freeCarry_e_alt (s : State) : (s.freeCarry).e' = s.e' := rfl
@[simp] theorem State.freeCarry_h_alt (s : State) : (s.freeCarry).h' = s.h' := rfl
@[simp] theorem State.freeCarry_l_alt (s : State) : (s.freeCarry).l' = s.l' := rfl
@[simp] theorem State.freeCarry_ix (s : State) : (s.freeCarry).ix = s.ix := rfl
@[simp] theorem State.freeCarry_iy (s : State) : (s.freeCarry).iy = s.iy := rfl
@[simp] theorem State.freeCarry_sp (s : State) : (s.freeCarry).sp = s.sp := rfl
@[simp] theorem State.freeCarry_pc (s : State) : (s.freeCarry).pc = s.pc := rfl
@[simp] theorem State.freeCarry_i (s : State) : (s.freeCarry).i = s.i := rfl
@[simp] theorem State.freeCarry_r (s : State) : (s.freeCarry).r = s.r := rfl
@[simp] theorem State.freeCarry_iff1 (s : State) : (s.freeCarry).iff1 = s.iff1 := rfl
@[simp] theorem State.freeCarry_iff2 (s : State) : (s.freeCarry).iff2 = s.iff2 := rfl
@[simp] theorem State.freeCarry_im (s : State) : (s.freeCarry).im = s.im := rfl
@[simp] theorem State.freeCarry_halted (s : State) : (s.freeCarry).halted = s.halted := rfl
@[simp] theorem State.freeCarry_intInhibit (s : State) : (s.freeCarry).intInhibit = s.intInhibit := rfl
@[simp] theorem State.freeCarry_diPending (s : State) : (s.freeCarry).diPending = s.diPending := rfl
@[simp] theorem State.freeCarry_mem (s : State) : (s.freeCarry).mem = s.mem := rfl
@[simp] theorem State.freeCarry_cfg (s : State) : (s.freeCarry).cfg = s.cfg := rfl
@[simp] theorem State.freeCarry_intSource (s : State) : (s.freeCarry).intSource = s.intSource := rfl
@[simp] theorem State.freeCarry_portIn (s : State) : (s.freeCarry).portIn = s.portIn := rfl
@[simp] theorem State.freeCarry_events (s : State) : (s.freeCarry).events = s.events := rfl
@[simp] theorem State.freeCarry_draws (s : State) : (s.freeCarry).draws = s.draws + 3 := rfl
@[simp] theorem State.freeCarry_read (s : State) (y : Word) : (s.freeCarry).read y = s.read y := rfl
@[simp] theorem State.freeCarry_pair_bc (s : State) : (s.freeCarry).bc = s.bc := rfl
@[simp] theorem State.freeCarry_pair_de (s : State) : (s.freeCarry).de = s.de := rfl
@[simp] theorem State.freeCarry_pair_hl (s : State) : (s.freeCarry).hl = s.hl := rfl

/-! ## `State.set` -/

@[simp] theorem State.set_a (s : State) (k : Reg8) (v : Byte) : (s.set k v).a = if k = .a then v else s.a := rfl
@[simp] theorem State.set_f (s : State) (k : Reg8) (v : Byte) : (s.set k v).f = s.f := rfl
@[simp] theorem State.set_b (s : State) (k : Reg8) (v : Byte) : (s.set k v).b = if k = .b then v else s.b := rfl
@[simp] theorem State.set_c (s : State) (k : Reg8) (v : Byte) : (s.set k v).c = if k = .c then v else s.c := rfl
@[simp] theorem State.set_d (s : State) (k : Reg8) (v : Byte) : (s.set k v).d = if k = .d then v else s.d := rfl
@[simp] theorem State.set_e (s : State) (k : Reg8) (v : Byte) : (s.set k v).e = if k = .e then v else s.e := rfl
@[simp] theorem State.set_h (s : State) (k : Reg8) (v : Byte) : (s.set k v).h = if k = .h then v else s.h := rfl
@[simp] theorem State.set_l (s : State) (k : Reg8) (v : Byte) : (s.set k v).l = if k = .l then v else s.l := rfl
@[simp] theorem State.set_a_alt (s : State) (k : Reg8) (v : Byte) : (s.set k v).a' = s.a' := rfl
@[simp] theorem State.set_f_alt (s : State) (k : Reg8) (v : Byte) : (s.set k v).f' = s.f' := rfl
@[simp] theorem State.set_b_alt (s : State) (k : Reg8) (v : Byte) : (s.set k v).b' = s.b' := rfl
@[simp] theorem State.set_c_alt (s : State) (k : Reg8) (v : Byte) : (s.set k v).c' = s.c' := rfl
@[simp] theorem State.set_d_alt (s : State) (k : Reg8) (v : Byte) : (s.set k v).d' = s.d' := rfl
@[simp] theorem State.set_e_alt (s : State) (k : Reg8) (v : Byte) : (s.set k v).e' = s.e' := rfl
@[simp] theorem State.set_h_alt (s : State) (k : Reg8) (v : Byte) : (s.set k v).h' = s.h' := rfl
@[simp] theorem State.set_l_alt (s : State) (k : Reg8) (v : Byte) : (s.set k v).l' = s.l' := rfl
@[simp] theorem State.set_ix (s : State) (k : Reg8) (v : Byte) : (s.set k v).ix = s.ix := rfl
@[simp] theorem State.set_iy (s : State) (k : Reg8) (v : Byte) : (s.set k v).iy = s.iy := rfl
@[simp] theorem State.set_sp (s : State) (k : Reg8) (v : Byte) : (s.set k v).sp = s.sp := rfl
@[simp] theorem State.set_pc (s : State) (k : Reg8) (v : Byte) : (s.set k v).pc = s.pc := rfl
@[simp] theorem State.set_i (s : State) (k : Reg8) (v : Byte) : (s.set k v).i = s.i := rfl
@[simp] theorem State.set_r (s : State) (k : Reg8) (v : Byte) : (s.set k v).r = s.r := rfl
@[simp] theorem State.set_iff1 (s : State) (k : Reg8) (v : Byte) : (s.set k v).iff1 = s.iff1 := rfl
@[simp] theorem State.set_iff2 (s : State) (k : Reg8) (v : Byte) : (s.set k v).iff2 = s.iff2 := rfl
@[simp] theorem State.set_im (s : State) (k : Reg8) (v : Byte) : (s.set k v).im = s.im := rfl
@[simp] theorem State.set_halted (s : State) (k : Reg8) (v : Byte) : (s.set k v).halted = s.halted := rfl
@[simp] theorem State.set_intInhibit (s : State) (k : Reg8) (v : Byte) : (s.set k v).intInhibit = s.intInhibit := rfl
@[simp] theorem State.set_diPending (s : State) (k : Reg8) (v : Byte) : (s.set k v).diPending = s.diPending := rfl
@[simp] theorem State.set_mem (s : State) (k : Reg8) (v : Byte) : (s.set k v).mem = s.mem := rfl
@[simp] theorem State.set_cfg (s : State) (k : Reg8) (v : Byte) : (s.set k v).cfg = s.cfg := rfl
@[simp] theorem State.set_intSource (s : State) (k : Reg8) (v : Byte) : (s.set k v).intSource = s.intSource := rfl
@[simp] theorem State.set_portIn (s : State) (k : Reg8) (v : Byte) : (s.set k v).portIn = s.portIn := rfl
@[simp] theorem State.set_events (s : State) (k : Reg8) (v : Byte) : (s.set k v).events = s.events := rfl
@[simp] theorem State.set_draws (s : State) (k : Reg8) (v : Byte) : (s.set k v).draws = s.draws := rfl
@[simp] theorem State.set_read (s : State) (k : Reg8) (v : Byte) (y : Word) : (s.set k v).read y = s.read y := rfl

/-! ## `State.setBC` -/

@[simp] theorem State.setBC_a (s : State) (v : Word) : (s.setBC v).a = s.a := rfl
@[simp] theorem State.setBC_f (s : State) (v : Word) : (s.setBC v).f = s.f := rfl
@[simp] theorem State.setBC_b (s : State) (v : Word) : (s.setBC v).b = hi v := rfl
@[simp] theorem State.setBC_c (s : State) (v : Word) : (s.setBC v).c = lo v := rfl
@[simp] theorem State.setBC_d (s : State) (v : Word) : (s.setBC v).d = s.d := rfl
@[simp] theorem State.setBC_e (s : State) (v : Word) : (s.setBC v).e = s.e := rfl
@[simp] theorem State.setBC_h (s : State) (v : Word) : (s.setBC v).h = s.h := rfl
@[simp] theorem State.setBC_l (s : State) (v : Word) : (s.setBC v).l = s.l := rfl
@[simp] theorem State.setBC_a_alt (s : State) (v : Word) : (s.setBC v).a' = s.a' := rfl
@[simp] theorem State.setBC_f_alt (s : State) (v : Word) : (s.setBC v).f' = s.f' := rfl
@[simp] theorem State.setBC_b_alt (s : State) (v : Word) : (s.setBC v).b' = s.b' := rfl
@[simp] theorem State.setBC_c_alt (s : State) (v : Word) : (s.setBC v).c' = s.c' := rfl
@[simp] theorem State.setBC_d_alt (s : State) (v : Word) : (s.setBC v).d' = s.d' := rfl
@[simp] theorem State.setBC_e_alt (s : State) (v : Word) : (s.setBC v).e' = s.e' := rfl
@[simp] theorem State.setBC_h_alt (s : State) (v : Word) : (s.setBC v).h' = s.h' := rfl
@[simp] theorem State.setBC_l_alt (s : State) (v : Word) : (s.setBC v).l' = s.l' := rfl
@[simp] theorem State.setBC_ix (s : State) (v : Word) : (s.setBC v).ix = s.ix := rfl
@[simp] theorem State.setBC_iy (s : State) (v : Word) : (s.setBC v).iy = s.iy := rfl
@[simp] theorem State.setBC_sp (s : State) (v : Word) : (s.setBC v).sp = s.sp := rfl
@[simp] theorem State.setBC_pc (s : State) (v : Word) : (s.setBC v).pc = s.pc := rfl
@[simp] theorem State.setBC_i (s : State) (v : Word) : (s.setBC v).i = s.i := rfl
@[simp] theorem State.setBC_r (s : State) (v : Word) : (s.setBC v).r = s.r := rfl
@[simp] theorem State.setBC_iff1 (s : State) (v : Word) : (s.setBC v).iff1 = s.iff1 := rfl
@[simp] theorem State.setBC_iff2 (s : State) (v : Word) : (s.setBC v).iff2 = s.iff2 := rfl
@[simp] theorem State.setBC_im (s : State) (v : Word) : (s.setBC v).im = s.im := rfl
@[simp] theorem State.setBC_halted (s : State) (v : Word) : (s.setBC v).halted = s.halted := rfl
@[simp] theorem State.setBC_intInhibit (s : State) (v : Word) : (s.setBC v).intInhibit = s.intInhibit := rfl
@[simp] theorem State.setBC_diPending (s : State) (v : Word) : (s.setBC v).diPending = s.diPending := rfl
@[simp] theorem State.setBC_mem (s : State) (v : Word) : (s.setBC v).mem = s.mem := rfl
@[simp] theorem State.setBC_cfg (s : State) (v : Word) : (s.setBC v).cfg = s.cfg := rfl
@[simp] theorem State.setBC_intSource (s : State) (v : Word) : (s.setBC v).intSource = s.intSource := rfl
@[simp] theorem State.setBC_portIn (s : State) (v : Word) : (s.setBC v).portIn = s.portIn := rfl
@[simp] theorem State.setBC_events (s : State) (v : Word) : (s.setBC v).events = s.events := rfl
@[simp] theorem State.setBC_draws (s : State) (v : Word) : (s.setBC v).draws = s.draws := rfl
@[simp] theorem State.setBC_read (s : State) (v : Word) (y : Word) : (s.setBC v).read y = s.read y := rfl
@[simp] theorem State.setBC_pair_de (s : State) (v : Word) : (s.setBC v).de = s.de := rfl
@[simp] theorem State.setBC_pair_hl (s : State) (v : Word) : (s.setBC v).hl = s.hl := rfl

/-! ## `State.setDE` -/

@[simp] theorem State.setDE_a (s : State) (v : Word) : (s.setDE v).a = s.a := rfl
@[simp] theorem State.setDE_f (s : State) (v : Word) : (s.setDE v).f = s.f := rfl
@[simp] theorem State.setDE_b (s : State) (v : Word) : (s.setDE v).b = s.b := rfl
@[simp] theorem State.setDE_c (s : State) (v : Word) : (s.setDE v).c = s.c := rfl
@[simp] theorem State.setDE_d (s : State) (v : Word) : (s.setDE v).d = hi v := rfl
@[simp] theorem State.setDE_e (s : State) (v : Word) : (s.setDE v).e = lo v := rfl
@[simp] theorem State.setDE_h (s : State) (v : Word) : (s.setDE v).h = s.h := rfl
@[simp] theorem State.setDE_l (s : State) (v : Word) : (s.setDE v).l = s.l := rfl
@[simp] theorem State.setDE_a_alt (s : State) (v : Word) : (s.setDE v).a' = s.a' := rfl
@[simp] theorem State.setDE_f_alt (s : State) (v : Word) : (s.setDE v).f' = s.f' := rfl
@[simp] theorem State.setDE_b_alt (s : State) (v : Word) : (s.setDE v).b' = s.b' := rfl
@[simp] theorem State.setDE_c_alt (s : State) (v : Word) : (s.setDE v).c' = s.c' := rfl
@[simp] theorem State.setDE_d_alt (s : State) (v : Word) : (s.setDE v).d' = s.d' := rfl
@[simp] theorem State.setDE_e_alt (s : State) (v : Word) : (s.setDE v).e' = s.e' := rfl
@[simp] theorem State.setDE_h_alt (s : State) (v : Word) : (s.setDE v).h' = s.h' := rfl
@[simp] theorem State.setDE_l_alt (s : State) (v : Word) : (s.setDE v).l' = s.l' := rfl
@[simp] theorem State.setDE_ix (s : State) (v : Word) : (s.setDE v).ix = s.ix := rfl
@[simp] theorem State.setDE_iy (s : State) (v : Word) : (s.setDE v).iy = s.iy := rfl
@[simp] theorem State.setDE_sp (s : State) (v : Word) : (s.setDE v).sp = s.sp := rfl
@[simp] theorem State.setDE_pc (s : State) (v : Word) : (s.setDE v).pc = s.pc := rfl
@[simp] theorem State.setDE_i (s : State) (v : Word) : (s.setDE v).i = s.i := rfl
@[simp] theorem State.setDE_r (s : State) (v : Word) : (s.setDE v).r = s.r := rfl
@[simp] theorem State.setDE_iff1 (s : State) (v : Word) : (s.setDE v).iff1 = s.iff1 := rfl
@[simp] theorem State.setDE_iff2 (s : State) (v : Word) : (s.setDE v).iff2 = s.iff2 := rfl
@[simp] theorem State.setDE_im (s : State) (v : Word) : (s.setDE v).im = s.im := rfl
@[simp] theorem State.setDE_halted (s : State) (v : Word) : (s.setDE v).halted = s.halted := rfl
@[simp] theorem State.setDE_intInhibit (s : State) (v : Word) : (s.setDE v).intInhibit = s.intInhibit := rfl
@[simp] theorem State.setDE_diPending (s : State) (v : Word) : (s.setDE v).diPending = s.diPending := rfl
@[simp] theorem State.setDE_mem (s : State) (v : Word) : (s.setDE v).mem = s.mem := rfl
@[simp] theorem State.setDE_cfg (s : State) (v : Word) : (s.setDE v).cfg = s.cfg := rfl
@[simp] theorem State.setDE_intSource (s : State) (v : Word) : (s.setDE v).intSource = s.intSource := rfl
@[simp] theorem State.setDE_portIn (s : State) (v : Word) : (s.setDE v).portIn = s.portIn := rfl
@[simp] theorem State.setDE_events (s : State) (v : Word) : (s.setDE v).events = s.events := rfl
@[simp] theorem State.setDE_draws (s : State) (v : Word) : (s.setDE v).draws = s.draws := rfl
@[simp] theorem State.setDE_read (s : State) (v : Word) (y : Word) : (s.setDE v).read y = s.read y := rfl
@[simp] theorem State.setDE_pair_bc (s : State) (v : Word) : (s.setDE v).bc = s.bc := rfl
@[simp] theorem State.setDE_pair_hl (s : State) (v : Word) : (s.setDE v).hl = s.hl := rfl

/-! ## `State.setHL` -/

@[simp] theorem State.setHL_a (s : State) (v : Word) : (s.setHL v).a = s.a := rfl
@[simp] theorem State.setHL_f (s : State) (v : Word) : (s.setHL v).f = s.f := rfl
@[simp] theorem State.setHL_b (s : State) (v : Word) : (s.setHL v).b = s.b := rfl
@[simp] theorem State.setHL_c (s : State) (v : Word) : (s.setHL v).c = s.c := rfl
@[simp] theorem State.setHL_d (s : State) (v : Word) : (s.setHL v).d = s.d := rfl
@[simp] theorem State.setHL_e (s : State) (v : Word) : (s.setHL v).e = s.e := rfl
@[simp] theorem State.setHL_h (s : State) (v : Word) : (s.setHL v).h = hi v := rfl
@[simp] theorem State.setHL_l (s : State) (v : Word) : (s.setHL v).l = lo v := rfl
@[simp] theorem State.setHL_a_alt (s : State) (v : Word) : (s.setHL v).a' = s.a' := rfl
@[simp] theorem State.setHL_f_alt (s : State) (v : Word) : (s.setHL v).f' = s.f' := rfl
@[simp] theorem State.setHL_b_alt (s : State) (v : Word) : (s.setHL v).b' = s.b' := rfl
@[simp] theorem State.setHL_c_alt (s : State) (v : Word) : (s.setHL v).c' = s.c' := rfl
@[simp] theorem State.setHL_d_alt (s : State) (v : Word) : (s.setHL v).d' = s.d' := rfl
@[simp] theorem State.setHL_e_alt (s : State) (v : Word) : (s.setHL v).e' = s.e' := rfl
@[simp] theorem State.setHL_h_alt (s : State) (v : Word) : (s.setHL v).h' = s.h' := rfl
@[simp] theorem State.setHL_l_alt (s : State) (v : Word) : (s.setHL v).l' = s.l' := rfl
@[simp] theorem State.setHL_ix (s : State) (v : Word) : (s.setHL v).ix = s.ix := rfl
@[simp] theorem State.setHL_iy (s : State) (v : Word) : (s.setHL v).iy = s.iy := rfl
@[simp] theorem State.setHL_sp (s : State) (v : Word) : (s.setHL v).sp = s.sp := rfl
@[simp] theorem State.setHL_pc (s : State) (v : Word) : (s.setHL v).pc = s.pc := rfl
@[simp] theorem State.setHL_i (s : State) (v : Word) : (s.setHL v).i = s.i := rfl
@[simp] theorem State.setHL_r (s : State) (v : Word) : (s.setHL v).r = s.r := rfl
@[simp] theorem State.setHL_iff1 (s : State) (v : Word) : (s.setHL v).iff1 = s.iff1 := rfl
@[simp] theorem State.setHL_iff2 (s : State) (v : Word) : (s.setHL v).iff2 = s.iff2 := rfl
@[simp] theorem State.setHL_im (s : State) (v : Word) : (s.setHL v).im = s.im := rfl
@[simp] theorem State.setHL_halted (s : State) (v : Word) : (s.setHL v).halted = s.halted := rfl
@[simp] theorem State.setHL_intInhibit (s : State) (v : Word) : (s.setHL v).intInhibit = s.intInhibit := rfl
@[simp] theorem State.setHL_diPending (s : State) (v : Word) : (s.setHL v).diPending = s.diPending := rfl
@[simp] theorem State.setHL_mem (s : State) (v : Word) : (s.setHL v).mem = s.mem := rfl
@[simp] theorem State.setHL_cfg (s : State) (v : Word) : (s.setHL v).cfg = s.cfg := rfl
@[simp] theorem State.setHL_intSource (s : State) (v : Word) : (s.setHL v).intSource = s.intSource := rfl
@[simp] theorem State.setHL_portIn (s : State) (v : Word) : (s.setHL v).portIn = s.portIn := rfl
@[simp] theorem State.setHL_events (s : State) (v : Word) : (s.setHL v).events = s.events := rfl
@[simp] theorem State.setHL_draws (s : State) (v : Word) : (s.setHL v).draws = s.draws := rfl
@[simp] theorem State.setHL_read (s : State) (v : Word) (y : Word) : (s.setHL v).read y = s.read y := rfl
@[simp] theorem State.setHL_pair_bc (s : State) (v : Word) : (s.setHL v).bc = s.bc := rfl
@[simp] theorem State.setHL_pair_de (s : State) (v : Word) : (s.setHL v).de = s.de := rfl

/-! ## `State.setAF` -/

@[simp] theorem State.setAF_a (s : State) (v : Word) : (s.setAF v).a = hi v := rfl
@[simp] theorem State.setAF_f (s : State) (v : Word) : (s.setAF v).f = Flags.ofByte (lo v) := rfl
@[simp] theorem State.setAF_b (s : State) (v : Word) : (s.setAF v).b = s.b := rfl
@[simp] theorem State.setAF_c (s : State) (v : Word) : (s.setAF v).c = s.c := rfl
@[simp] theorem State.setAF_d (s : State) (v : Word) : (s.setAF v).d = s.d := rfl
@[simp] theorem State.setAF_e (s : State) (v : Word) : (s.setAF v).e = s.e := rfl
@[simp] theorem State.setAF_h (s : State) (v : Word) : (s.setAF v).h = s.h := rfl
@[simp] theorem State.setAF_l (s : State) (v : Word) : (s.setAF v).l = s.l := rfl
@[simp] theorem State.setAF_a_alt (s : State) (v : Word) : (s.setAF v).a' = s.a' := rfl
@[simp] theorem State.setAF_f_alt (s : State) (v : Word) : (s.setAF v).f' = s.f' := rfl
@[simp] theorem State.setAF_b_alt (s : State) (v : Word) : (s.setAF v).b' = s.b' := rfl
@[simp] theorem State.setAF_c_alt (s : State) (v : Word) : (s.setAF v).c' = s.c' := rfl
@[simp] theorem State.setAF_d_alt (s : State) (v : Word) : (s.setAF v).d' = s.d' := rfl
@[simp] theorem State.setAF_e_alt (s : State) (v : Word) : (s.setAF v).e' = s.e' := rfl
@[simp] theorem State.setAF_h_alt (s : State) (v : Word) : (s.setAF v).h' = s.h' := rfl
@[simp] theorem State.setAF_l_alt (s : State) (v : Word) : (s.setAF v).l' = s.l' := rfl
@[simp] theorem State.setAF_ix (s : State) (v : Word) : (s.setAF v).ix = s.ix := rfl
@[simp] theorem State.setAF_iy (s : State) (v : Word) : (s.setAF v).iy = s.iy := rfl
@[simp] theorem State.setAF_sp (s : State) (v : Word) : (s.setAF v).sp = s.sp := rfl
@[simp] theorem State.setAF_pc (s : State) (v : Word) : (s.setAF v).pc = s.pc := rfl
@[simp] theorem State.setAF_i (s : State) (v : Word) : (s.setAF v).i = s.i := rfl
@[simp] theorem State.setAF_r (s : State) (v : Word) : (s.setAF v).r = s.r := rfl
@[simp] theorem State.setAF_iff1 (s : State) (v : Word) : (s.setAF v).iff1 = s.iff1 := rfl
@[simp] theorem State.setAF_iff2 (s : State) (v : Word) : (s.setAF v).iff2 = s.iff2 := rfl
@[simp] theorem State.setAF_im (s : State) (v : Word) : (s.setAF v).im = s.im := rfl
@[simp] theorem State.setAF_halted (s : State) (v : Word) : (s.setAF v).halted = s.halted := rfl
@[simp] theorem State.setAF_intInhibit (s : State) (v : Word) : (s.setAF v).intInhibit = s.intInhibit := rfl
@[simp] theorem State.setAF_diPending (s : State) (v : Word) : (s.setAF v).diPending = s.diPending := rfl
@[simp] theorem State.setAF_mem (s : State) (v : Word) : (s.setAF v).mem = s.mem := rfl
@[simp] theorem State.setAF_cfg (s : State) (v : Word) : (s.setAF v).cfg = s.cfg := rfl
@[simp] theorem State.setAF_intSource (s : State) (v : Word) : (s.setAF v).intSource = s.intSource := rfl
@[simp] theorem State.setAF_portIn (s : State) (v : Word) : (s.setAF v).portIn = s.portIn := rfl
@[simp] theorem State.setAF_events (s : State) (v : Word) : (s.setAF v).events = s.events := rfl
@[simp] theorem State.setAF_draws (s : State) (v : Word) : (s.setAF v).draws = s.draws := rfl
@[simp] theorem State.setAF_read (s : State) (v : Word) (y : Word) : (s.setAF v).read y = s.read y := rfl
@[simp] theorem State.setAF_pair_bc (s : State) (v : Word) : (s.setAF v).bc = s.bc := rfl
@[simp] theorem State.setAF_pair_de (s : State) (v : Word) : (s.setAF v).de = s.de := rfl
@[simp] theorem State.setAF_pair_hl (s : State) (v : Word) : (s.setAF v).hl = s.hl := rfl

/-! ## `State.setSP` -/

@[simp] theorem State.setSP_a (s : State) (v : Word) : (s.setSP v).a = s.a := rfl
@[simp] theorem State.setSP_f (s : State) (v : Word) : (s.setSP v).f = s.f := rfl
@[simp] theorem State.setSP_b (s : State) (v : Word) : (s.setSP v).b = s.b := rfl
@[simp] theorem State.setSP_c (s : State) (v : Word) : (s.setSP v).c = s.c := rfl
@[simp] theorem State.setSP_d (s : State) (v : Word) : (s.setSP v).d = s.d := rfl
@[simp] theorem State.setSP_e (s : State) (v : Word) : (s.setSP v).e = s.e := rfl
@[simp] theorem State.setSP_h (s : State) (v : Word) : (s.setSP v).h = s.h := rfl
@[simp] theorem State.setSP_l (s : State) (v : Word) : (s.setSP v).l = s.l := rfl
@[simp] theorem State.setSP_a_alt (s : State) (v : Word) : (s.setSP v).a' = s.a' := rfl
@[simp] theorem State.setSP_f_alt (s : State) (v : Word) : (s.setSP v).f' = s.f' := rfl
@[simp] theorem State.setSP_b_alt (s : State) (v : Word) : (s.setSP v).b' = s.b' := rfl
@[simp] theorem State.setSP_c_alt (s : State) (v : Word) : (s.setSP v).c' = s.c' := rfl
@[simp] theorem State.setSP_d_alt (s : State) (v : Word) : (s.setSP v).d' = s.d' := rfl
@[simp] theorem State.setSP_e_alt (s : State) (v : Word) : (s.setSP v).e' = s.e' := rfl
@[simp] theorem State.setSP_h_alt (s : State) (v : Word) : (s.setSP v).h' = s.h' := rfl
@[simp] theorem State.setSP_l_alt (s : State) (v : Word) : (s.setSP v).l' = s.l' := rfl
@[simp] theorem State.setSP_ix (s : State) (v : Word) : (s.setSP v).ix = s.ix := rfl
@[simp] theorem State.setSP_iy (s : State) (v : Word) : (s.setSP v).iy = s.iy := rfl
@[simp] theorem State.setSP_sp (s : State) (v : Word) : (s.setSP v).sp = v := rfl
@[simp] theorem State.setSP_pc (s : State) (v : Word) : (s.setSP v).pc = s.pc := rfl
@[simp] theorem State.setSP_i (s : State) (v : Word) : (s.setSP v).i = s.i := rfl
@[simp] theorem State.setSP_r (s : State) (v : Word) : (s.setSP v).r = s.r := rfl
@[simp] theorem State.setSP_iff1 (s : State) (v : Word) : (s.setSP v).iff1 = s.iff1 := rfl
@[simp] theorem State.setSP_iff2 (s : State) (v : Word) : (s.setSP v).iff2 = s.iff2 := rfl
@[simp] theorem State.setSP_im (s : State) (v : Word) : (s.setSP v).im = s.im := rfl
@[simp] theorem State.setSP_halted (s : State) (v : Word) : (s.setSP v).halted = s.halted := rfl
@[simp] theorem State.setSP_intInhibit (s : State) (v : Word) : (s.setSP v).intInhibit = s.intInhibit := rfl
@[simp] theorem State.setSP_diPending (s : State) (v : Word) : (s.setSP v).diPending = s.diPending := rfl
@[simp] theorem State.setSP_mem (s : State) (v : Word) : (s.setSP v).mem = s.mem := rfl
@[simp] theorem State.setSP_cfg (s : State) (v : Word) : (s.setSP v).cfg = s.cfg := rfl
@[simp] theorem State.setSP_intSource (s : State) (v : Word) : (s.setSP v).intSource = s.intSource := rfl
@[simp] theorem State.setSP_portIn (s : State) (v : Word) : (s.setSP v).portIn = s.portIn := rfl
@[simp] theorem State.setSP_events (s : State) (v : Word) : (s.setSP v).events = s.events := rfl
@[simp] theorem State.setSP_draws (s : State) (v : Word) : (s.setSP v).draws = s.draws := rfl
@[simp] theorem State.setSP_read (s : State) (v : Word) (y : Word) : (s.setSP v).read y = s.read y := rfl
@[simp] theorem State.setSP_pair_bc (s : State) (v : Word) : (s.setSP v).bc = s.bc := rfl
@[simp] theorem State.setSP_pair_de (s : State) (v : Word) : (s.setSP v).de = s.de := rfl
@[simp] theorem State.setSP_pair_hl (s : State) (v : Word) : (s.setSP v).hl = s.hl := rfl

/-! ## `State.setIndex` -/

@[simp] theorem State.setIndex_a (s : State) (p : IndexReg) (v : Word) : (s.setIndex p v).a = s.a := rfl
@[simp] theorem State.setIndex_f (s : State) (p : IndexReg) (v : Word) : (s.setIndex p v).f = s.f := rfl
@[simp] theorem State.setIndex_b (s : State) (p : IndexReg) (v : Word) : (s.setIndex p v).b = s.b := rfl
@[simp] theorem State.setIndex_c (s : State) (p : IndexReg) (v : Word) : (s.setIndex p v).c = s.c := rfl
@[simp] theorem State.setIndex_d (s : State) (p : IndexReg) (v : Word) : (s.setIndex p v).d = s.d := rfl
@[simp] theorem State.setIndex_e (s : State) (p : IndexReg) (v : Word) : (s.setIndex p v).e = s.e := rfl
@[simp] theorem State.setIndex_h (s : State) (p : IndexReg) (v : Word) : (s.setIndex p v).h = s.h := rfl
@[simp] theorem State.setIndex_l (s : State) (p : IndexReg) (v : Word) : (s.setIndex p v).l = s.l := rfl
@[simp] theorem State.setIndex_a_alt (s : State) (p : IndexReg) (v : Word) : (s.setIndex p v).a' = s.a' := rfl
@[simp] theorem State.setIndex_f_alt (s : State) (p : IndexReg) (v : Word) : (s.setIndex p v).f' = s.f' := rfl
@[simp] theorem State.setIndex_b_alt (s : State) (p : IndexReg) (v : Word) : (s.setIndex p v).b' = s.b' := rfl
@[simp] theorem State.setIndex_c_alt (s : State) (p : IndexReg) (v : Word) : (s.setIndex p v).c' = s.c' := rfl
@[simp] theorem State.setIndex_d_alt (s : State) (p : IndexReg) (v : Word) : (s.setIndex p v).d' = s.d' := rfl
@[simp] theorem State.setIndex_e_alt (s : State) (p : IndexReg) (v : Word) : (s.setIndex p v).e' = s.e' := rfl
@[simp] theorem State.setIndex_h_alt (s : State) (p : IndexReg) (v : Word) : (s.setIndex p v).h' = s.h' := rfl
@[simp] theorem State.setIndex_l_alt (s : State) (p : IndexReg) (v : Word) : (s.setIndex p v).l' = s.l' := rfl
@[simp] theorem State.setIndex_ix (s : State) (p : IndexReg) (v : Word) :
    (s.setIndex p v).ix = if p = .ix then v else s.ix := rfl
@[simp] theorem State.setIndex_iy (s : State) (p : IndexReg) (v : Word) :
    (s.setIndex p v).iy = if p = .iy then v else s.iy := rfl
@[simp] theorem State.setIndex_sp (s : State) (p : IndexReg) (v : Word) : (s.setIndex p v).sp = s.sp := rfl
@[simp] theorem State.setIndex_pc (s : State) (p : IndexReg) (v : Word) : (s.setIndex p v).pc = s.pc := rfl
@[simp] theorem State.setIndex_i (s : State) (p : IndexReg) (v : Word) : (s.setIndex p v).i = s.i := rfl
@[simp] theorem State.setIndex_r (s : State) (p : IndexReg) (v : Word) : (s.setIndex p v).r = s.r := rfl
@[simp] theorem State.setIndex_iff1 (s : State) (p : IndexReg) (v : Word) : (s.setIndex p v).iff1 = s.iff1 := rfl
@[simp] theorem State.setIndex_iff2 (s : State) (p : IndexReg) (v : Word) : (s.setIndex p v).iff2 = s.iff2 := rfl
@[simp] theorem State.setIndex_im (s : State) (p : IndexReg) (v : Word) : (s.setIndex p v).im = s.im := rfl
@[simp] theorem State.setIndex_halted (s : State) (p : IndexReg) (v : Word) :
    (s.setIndex p v).halted = s.halted := rfl
@[simp] theorem State.setIndex_intInhibit (s : State) (p : IndexReg) (v : Word) :
    (s.setIndex p v).intInhibit = s.intInhibit := rfl
@[simp] theorem State.setIndex_diPending (s : State) (p : IndexReg) (v : Word) :
    (s.setIndex p v).diPending = s.diPending := rfl
@[simp] theorem State.setIndex_mem (s : State) (p : IndexReg) (v : Word) : (s.setIndex p v).mem = s.mem := rfl
@[simp] theorem State.setIndex_cfg (s : State) (p : IndexReg) (v : Word) : (s.setIndex p v).cfg = s.cfg := rfl
@[simp] theorem State.setIndex_intSource (s : State) (p : IndexReg) (v : Word) :
    (s.setIndex p v).intSource = s.intSource := rfl
@[simp] theorem State.setIndex_portIn (s : State) (p : IndexReg) (v : Word) :
    (s.setIndex p v).portIn = s.portIn := rfl
@[simp] theorem State.setIndex_events (s : State) (p : IndexReg) (v : Word) :
    (s.setIndex p v).events = s.events := rfl
@[simp] theorem State.setIndex_draws (s : State) (p : IndexReg) (v : Word) : (s.setIndex p v).draws = s.draws := rfl
@[simp] theorem State.setIndex_read (s : State) (p : IndexReg) (v : Word) (y : Word) : (s.setIndex p v).read y = s.read y := rfl
@[simp] theorem State.setIndex_pair_bc (s : State) (p : IndexReg) (v : Word) : (s.setIndex p v).bc = s.bc := rfl
@[simp] theorem State.setIndex_pair_de (s : State) (p : IndexReg) (v : Word) : (s.setIndex p v).de = s.de := rfl
@[simp] theorem State.setIndex_pair_hl (s : State) (p : IndexReg) (v : Word) : (s.setIndex p v).hl = s.hl := rfl

/-! ## `State.sampled` -/

@[simp] theorem State.sampled_a (s : State) : (s.sampled).a = s.a := rfl
@[simp] theorem State.sampled_f (s : State) : (s.sampled).f = s.f := rfl
@[simp] theorem State.sampled_b (s : State) : (s.sampled).b = s.b := rfl
@[simp] theorem State.sampled_c (s : State) : (s.sampled).c = s.c := rfl
@[simp] theorem State.sampled_d (s : State) : (s.sampled).d = s.d := rfl
@[simp] theorem State.sampled_e (s : State) : (s.sampled).e = s.e := rfl
@[simp] theorem State.sampled_h (s : State) : (s.sampled).h = s.h := rfl
@[simp] theorem State.sampled_l (s : State) : (s.sampled).l = s.l := rfl
@[simp] theorem State.sampled_a_alt (s : State) : (s.sampled).a' = s.a' := rfl
@[simp] theorem State.sampled_f_alt (s : State) : (s.sampled).f' = s.f' := rfl
@[simp] theorem State.sampled_b_alt (s : State) : (s.sampled).b' = s.b' := rfl
@[simp] theorem State.sampled_c_alt (s : State) : (s.sampled).c' = s.c' := rfl
@[simp] theorem State.sampled_d_alt (s : State) : (s.sampled).d' = s.d' := rfl
@[simp] theorem State.sampled_e_alt (s : State) : (s.sampled).e' = s.e' := rfl
@[simp] theorem State.sampled_h_alt (s : State) : (s.sampled).h' = s.h' := rfl
@[simp] theorem State.sampled_l_alt (s : State) : (s.sampled).l' = s.l' := rfl
@[simp] theorem State.sampled_ix (s : State) : (s.sampled).ix = s.ix := rfl
@[simp] theorem State.sampled_iy (s : State) : (s.sampled).iy = s.iy := rfl
@[simp] theorem State.sampled_sp (s : State) : (s.sampled).sp = s.sp := rfl
@[simp] theorem State.sampled_pc (s : State) : (s.sampled).pc = s.pc := rfl
@[simp] theorem State.sampled_i (s : State) : (s.sampled).i = s.i := rfl
@[simp] theorem State.sampled_r (s : State) : (s.sampled).r = s.r := rfl
@[simp] theorem State.sampled_iff1 (s : State) : (s.sampled).iff1 = s.iff1 := rfl
@[simp] theorem State.sampled_iff2 (s : State) : (s.sampled).iff2 = s.iff2 := rfl
@[simp] theorem State.sampled_im (s : State) : (s.sampled).im = s.im := rfl
@[simp] theorem State.sampled_halted (s : State) : (s.sampled).halted = s.halted := rfl
@[simp] theorem State.sampled_intInhibit (s : State) : (s.sampled).intInhibit = s.intInhibit := rfl
@[simp] theorem State.sampled_diPending (s : State) : (s.sampled).diPending = s.diPending := rfl
@[simp] theorem State.sampled_mem (s : State) : (s.sampled).mem = s.mem := rfl
@[simp] theorem State.sampled_cfg (s : State) : (s.sampled).cfg = s.cfg := rfl
@[simp] theorem State.sampled_intSource (s : State) : (s.sampled).intSource = s.intSource.tail := rfl
@[simp] theorem State.sampled_portIn (s : State) : (s.sampled).portIn = s.portIn := rfl
@[simp] theorem State.sampled_events (s : State) : (s.sampled).events = s.events := rfl
@[simp] theorem State.sampled_draws (s : State) : (s.sampled).draws = s.draws := rfl
@[simp] theorem State.sampled_read (s : State) (y : Word) : (s.sampled).read y = s.read y := rfl
@[simp] theorem State.sampled_pair_bc (s : State) : (s.sampled).bc = s.bc := rfl
@[simp] theorem State.sampled_pair_de (s : State) : (s.sampled).de = s.de := rfl
@[simp] theorem State.sampled_pair_hl (s : State) : (s.sampled).hl = s.hl := rfl

/-! ## `State.begin` -/

@[simp] theorem State.begin_a (s : State) : (s.begin).a = s.a := rfl
@[simp] theorem State.begin_f (s : State) : (s.begin).f = s.f := rfl
@[simp] theorem State.begin_b (s : State) : (s.begin).b = s.b := rfl
@[simp] theorem State.begin_c (s : State) : (s.begin).c = s.c := rfl
@[simp] theorem State.begin_d (s : State) : (s.begin).d = s.d := rfl
@[simp] theorem State.begin_e (s : State) : (s.begin).e = s.e := rfl
@[simp] theorem State.begin_h (s : State) : (s.begin).h = s.h := rfl
@[simp] theorem State.begin_l (s : State) : (s.begin).l = s.l := rfl
@[simp] theorem State.begin_a_alt (s : State) : (s.begin).a' = s.a' := rfl
@[simp] theorem State.begin_f_alt (s : State) : (s.begin).f' = s.f' := rfl
@[simp] theorem State.begin_b_alt (s : State) : (s.begin).b' = s.b' := rfl
@[simp] theorem State.begin_c_alt (s : State) : (s.begin).c' = s.c' := rfl
@[simp] theorem State.begin_d_alt (s : State) : (s.begin).d' = s.d' := rfl
@[simp] theorem State.begin_e_alt (s : State) : (s.begin).e' = s.e' := rfl
@[simp] theorem State.begin_h_alt (s : State) : (s.begin).h' = s.h' := rfl
@[simp] theorem State.begin_l_alt (s : State) : (s.begin).l' = s.l' := rfl
@[simp] theorem State.begin_ix (s : State) : (s.begin).ix = s.ix := rfl
@[simp] theorem State.begin_iy (s : State) : (s.begin).iy = s.iy := rfl
@[simp] theorem State.begin_sp (s : State) : (s.begin).sp = s.sp := rfl
@[simp] theorem State.begin_pc (s : State) : (s.begin).pc = s.pc := rfl
@[simp] theorem State.begin_i (s : State) : (s.begin).i = s.i := rfl
@[simp] theorem State.begin_r (s : State) : (s.begin).r = s.r := rfl
@[simp] theorem State.begin_iff1 (s : State) : (s.begin).iff1 = s.iff1 := rfl
@[simp] theorem State.begin_iff2 (s : State) : (s.begin).iff2 = s.iff2 := rfl
@[simp] theorem State.begin_im (s : State) : (s.begin).im = s.im := rfl
@[simp] theorem State.begin_halted (s : State) : (s.begin).halted = s.halted := rfl
@[simp] theorem State.begin_intInhibit (s : State) : (s.begin).intInhibit = false := rfl
@[simp] theorem State.begin_diPending (s : State) : (s.begin).diPending = false := rfl
@[simp] theorem State.begin_mem (s : State) : (s.begin).mem = s.mem := rfl
@[simp] theorem State.begin_cfg (s : State) : (s.begin).cfg = s.cfg := rfl
@[simp] theorem State.begin_intSource (s : State) : (s.begin).intSource = s.intSource.tail := rfl
@[simp] theorem State.begin_portIn (s : State) : (s.begin).portIn = s.portIn := rfl
@[simp] theorem State.begin_events (s : State) : (s.begin).events = s.events := rfl
@[simp] theorem State.begin_draws (s : State) : (s.begin).draws = s.draws := rfl
@[simp] theorem State.begin_read (s : State) (y : Word) : (s.begin).read y = s.read y := rfl
@[simp] theorem State.begin_pair_bc (s : State) : (s.begin).bc = s.bc := rfl
@[simp] theorem State.begin_pair_de (s : State) : (s.begin).de = s.de := rfl
@[simp] theorem State.begin_pair_hl (s : State) : (s.begin).hl = s.hl := rfl

/-! ## `State.finish` -/

@[simp] theorem State.finish_a (s : State) (w : Bool) : (s.finish w).a = s.a := rfl
@[simp] theorem State.finish_f (s : State) (w : Bool) : (s.finish w).f = s.f := rfl
@[simp] theorem State.finish_b (s : State) (w : Bool) : (s.finish w).b = s.b := rfl
@[simp] theorem State.finish_c (s : State) (w : Bool) : (s.finish w).c = s.c := rfl
@[simp] theorem State.finish_d (s : State) (w : Bool) : (s.finish w).d = s.d := rfl
@[simp] theorem State.finish_e (s : State) (w : Bool) : (s.finish w).e = s.e := rfl
@[simp] theorem State.finish_h (s : State) (w : Bool) : (s.finish w).h = s.h := rfl
@[simp] theorem State.finish_l (s : State) (w : Bool) : (s.finish w).l = s.l := rfl
@[simp] theorem State.finish_a_alt (s : State) (w : Bool) : (s.finish w).a' = s.a' := rfl
@[simp] theorem State.finish_f_alt (s : State) (w : Bool) : (s.finish w).f' = s.f' := rfl
@[simp] theorem State.finish_b_alt (s : State) (w : Bool) : (s.finish w).b' = s.b' := rfl
@[simp] theorem State.finish_c_alt (s : State) (w : Bool) : (s.finish w).c' = s.c' := rfl
@[simp] theorem State.finish_d_alt (s : State) (w : Bool) : (s.finish w).d' = s.d' := rfl
@[simp] theorem State.finish_e_alt (s : State) (w : Bool) : (s.finish w).e' = s.e' := rfl
@[simp] theorem State.finish_h_alt (s : State) (w : Bool) : (s.finish w).h' = s.h' := rfl
@[simp] theorem State.finish_l_alt (s : State) (w : Bool) : (s.finish w).l' = s.l' := rfl
@[simp] theorem State.finish_ix (s : State) (w : Bool) : (s.finish w).ix = s.ix := rfl
@[simp] theorem State.finish_iy (s : State) (w : Bool) : (s.finish w).iy = s.iy := rfl
@[simp] theorem State.finish_sp (s : State) (w : Bool) : (s.finish w).sp = s.sp := rfl
@[simp] theorem State.finish_pc (s : State) (w : Bool) : (s.finish w).pc = s.pc := rfl
@[simp] theorem State.finish_i (s : State) (w : Bool) : (s.finish w).i = s.i := rfl
@[simp] theorem State.finish_r (s : State) (w : Bool) : (s.finish w).r = s.r := rfl
@[simp] theorem State.finish_iff1 (s : State) (w : Bool) : (s.finish w).iff1 = (s.iff1 && !w) := rfl
@[simp] theorem State.finish_iff2 (s : State) (w : Bool) : (s.finish w).iff2 = (s.iff2 && !w) := rfl
@[simp] theorem State.finish_im (s : State) (w : Bool) : (s.finish w).im = s.im := rfl
@[simp] theorem State.finish_halted (s : State) (w : Bool) : (s.finish w).halted = s.halted := rfl
@[simp] theorem State.finish_intInhibit (s : State) (w : Bool) : (s.finish w).intInhibit = s.intInhibit := rfl
@[simp] theorem State.finish_diPending (s : State) (w : Bool) : (s.finish w).diPending = s.diPending := rfl
@[simp] theorem State.finish_mem (s : State) (w : Bool) : (s.finish w).mem = s.mem := rfl
@[simp] theorem State.finish_cfg (s : State) (w : Bool) : (s.finish w).cfg = s.cfg := rfl
@[simp] theorem State.finish_intSource (s : State) (w : Bool) : (s.finish w).intSource = s.intSource := rfl
@[simp] theorem State.finish_portIn (s : State) (w : Bool) : (s.finish w).portIn = s.portIn := rfl
@[simp] theorem State.finish_events (s : State) (w : Bool) : (s.finish w).events = s.events := rfl
@[simp] theorem State.finish_draws (s : State) (w : Bool) : (s.finish w).draws = s.draws := rfl
@[simp] theorem State.finish_read (s : State) (w : Bool) (y : Word) : (s.finish w).read y = s.read y := rfl
@[simp] theorem State.finish_pair_bc (s : State) (w : Bool) : (s.finish w).bc = s.bc := rfl
@[simp] theorem State.finish_pair_de (s : State) (w : Bool) : (s.finish w).de = s.de := rfl
@[simp] theorem State.finish_pair_hl (s : State) (w : Bool) : (s.finish w).hl = s.hl := rfl

/-! ## `State.acknowledged` -/

@[simp] theorem State.acknowledged_a (s : State) : (s.acknowledged).a = s.a := rfl
@[simp] theorem State.acknowledged_f (s : State) : (s.acknowledged).f = s.f := rfl
@[simp] theorem State.acknowledged_b (s : State) : (s.acknowledged).b = s.b := rfl
@[simp] theorem State.acknowledged_c (s : State) : (s.acknowledged).c = s.c := rfl
@[simp] theorem State.acknowledged_d (s : State) : (s.acknowledged).d = s.d := rfl
@[simp] theorem State.acknowledged_e (s : State) : (s.acknowledged).e = s.e := rfl
@[simp] theorem State.acknowledged_h (s : State) : (s.acknowledged).h = s.h := rfl
@[simp] theorem State.acknowledged_l (s : State) : (s.acknowledged).l = s.l := rfl
@[simp] theorem State.acknowledged_a_alt (s : State) : (s.acknowledged).a' = s.a' := rfl
@[simp] theorem State.acknowledged_f_alt (s : State) : (s.acknowledged).f' = s.f' := rfl
@[simp] theorem State.acknowledged_b_alt (s : State) : (s.acknowledged).b' = s.b' := rfl
@[simp] theorem State.acknowledged_c_alt (s : State) : (s.acknowledged).c' = s.c' := rfl
@[simp] theorem State.acknowledged_d_alt (s : State) : (s.acknowledged).d' = s.d' := rfl
@[simp] theorem State.acknowledged_e_alt (s : State) : (s.acknowledged).e' = s.e' := rfl
@[simp] theorem State.acknowledged_h_alt (s : State) : (s.acknowledged).h' = s.h' := rfl
@[simp] theorem State.acknowledged_l_alt (s : State) : (s.acknowledged).l' = s.l' := rfl
@[simp] theorem State.acknowledged_ix (s : State) : (s.acknowledged).ix = s.ix := rfl
@[simp] theorem State.acknowledged_iy (s : State) : (s.acknowledged).iy = s.iy := rfl
@[simp] theorem State.acknowledged_sp (s : State) : (s.acknowledged).sp = s.sp := rfl
@[simp] theorem State.acknowledged_pc (s : State) : (s.acknowledged).pc = s.pc := rfl
@[simp] theorem State.acknowledged_i (s : State) : (s.acknowledged).i = s.i := rfl
@[simp] theorem State.acknowledged_r (s : State) : (s.acknowledged).r = s.r := rfl
@[simp] theorem State.acknowledged_iff1 (s : State) : (s.acknowledged).iff1 = false := rfl
@[simp] theorem State.acknowledged_iff2 (s : State) : (s.acknowledged).iff2 = false := rfl
@[simp] theorem State.acknowledged_im (s : State) : (s.acknowledged).im = s.im := rfl
@[simp] theorem State.acknowledged_halted (s : State) : (s.acknowledged).halted = false := rfl
@[simp] theorem State.acknowledged_intInhibit (s : State) : (s.acknowledged).intInhibit = false := rfl
@[simp] theorem State.acknowledged_diPending (s : State) : (s.acknowledged).diPending = false := rfl
@[simp] theorem State.acknowledged_mem (s : State) : (s.acknowledged).mem = s.mem := rfl
@[simp] theorem State.acknowledged_cfg (s : State) : (s.acknowledged).cfg = s.cfg := rfl
@[simp] theorem State.acknowledged_intSource (s : State) : (s.acknowledged).intSource = s.intSource := rfl
@[simp] theorem State.acknowledged_portIn (s : State) : (s.acknowledged).portIn = s.portIn := rfl
@[simp] theorem State.acknowledged_events (s : State) : (s.acknowledged).events = s.events := rfl
@[simp] theorem State.acknowledged_draws (s : State) : (s.acknowledged).draws = s.draws := rfl
@[simp] theorem State.acknowledged_read (s : State) (y : Word) : (s.acknowledged).read y = s.read y := rfl
@[simp] theorem State.acknowledged_pair_bc (s : State) : (s.acknowledged).bc = s.bc := rfl
@[simp] theorem State.acknowledged_pair_de (s : State) : (s.acknowledged).de = s.de := rfl
@[simp] theorem State.acknowledged_pair_hl (s : State) : (s.acknowledged).hl = s.hl := rfl

end Sys2Proof.Machine
end

