-- ==== Sys2Proof/Laws/Memory.lean ====
section
/-! SUPPORT. Memory: a read after a write, a write leaves every other address alone, and every operation keeps the
canonical form. -/

namespace Sys2Proof.Machine

/-! ## The list of cells -/

/-- A list that starts at `n` says nothing of the addresses below. -/
theorem Memory.read_below {m : Memory} {n a : Nat} (h : Memory.wfFrom n m = true) (ha : a < n) :
    Memory.read m a = unlisted := by
  induction m generalizing n with
  | nil => rfl
  | cons cell m ih =>
    obtain ⟨b, w⟩ := cell
    simp only [Memory.wfFrom, Bool.and_eq_true, decide_eq_true_eq] at h
    obtain ⟨⟨⟨hn, -⟩, -⟩, hm⟩ := h
    have hab : a ≠ b := by omega
    simp only [Memory.read, if_neg hab]
    exact ih hm (by omega)

theorem Memory.read_cons_same {m : Memory} {n a : Nat} (v : Byte) (h : Memory.wfFrom n m = true) (ha : a < n) :
    Memory.read (Memory.cons a v m) a = v := by
  unfold Memory.cons
  split
  · rename_i hv
    rw [Memory.read_below h ha, hv]
  · simp [Memory.read]

theorem Memory.read_cons_ne (m : Memory) {a b : Nat} (v : Byte) (hab : b ≠ a) :
    Memory.read (Memory.cons a v m) b = Memory.read m b := by
  unfold Memory.cons
  split
  · rfl
  · simp [Memory.read, hab]

/-- A read gives what was written there. -/
theorem Memory.read_write_same {m : Memory} {n : Nat} (a : Nat) (v : Byte) (h : Memory.wfFrom n m = true) :
    Memory.read (Memory.write m a v) a = v := by
  induction m generalizing n with
  | nil => exact Memory.read_cons_same (n := a + 1) v rfl (by omega)
  | cons cell m ih =>
    obtain ⟨b, w⟩ := cell
    have h' := h
    simp only [Memory.wfFrom, Bool.and_eq_true, decide_eq_true_eq] at h
    obtain ⟨⟨⟨hn, hb⟩, hw⟩, hm⟩ := h
    unfold Memory.write
    split
    · rename_i hab
      refine Memory.read_cons_same (n := b) v ?_ hab
      simp only [Memory.wfFrom, Bool.and_eq_true, decide_eq_true_eq]
      exact ⟨⟨⟨Nat.le_refl b, hb⟩, hw⟩, hm⟩
    · split
      · rename_i hab
        exact Memory.read_cons_same (n := b + 1) v hm (by omega)
      · rename_i hab
        simp only [Memory.read, if_neg hab]
        exact ih hm

/-- A write leaves every other address alone. -/
theorem Memory.read_write_ne (m : Memory) {a b : Nat} (v : Byte) (hab : b ≠ a) :
    Memory.read (Memory.write m a v) b = Memory.read m b := by
  induction m with
  | nil => exact Memory.read_cons_ne [] v hab
  | cons cell m ih =>
    obtain ⟨c, w⟩ := cell
    unfold Memory.write
    split
    · exact Memory.read_cons_ne _ v hab
    · split
      · rename_i hac
        rw [Memory.read_cons_ne m v hab]
        simp [Memory.read, ← hac, hab]
      · simp only [Memory.read, ih]

theorem Memory.cons_wf {m : Memory} {n a : Nat} (v : Byte) (hn : n ≤ a) (ha : a < 2 ^ 16)
    (h : Memory.wfFrom (a + 1) m = true) (hlow : Memory.wfFrom n m = true) :
    Memory.wfFrom n (Memory.cons a v m) = true := by
  unfold Memory.cons
  split
  · exact hlow
  · rename_i hv
    simp only [Memory.wfFrom, Bool.and_eq_true, decide_eq_true_eq]
    exact ⟨⟨⟨hn, ha⟩, hv⟩, h⟩

/-- A list that starts at `n` starts anywhere below. -/
theorem Memory.wf_lower {m : Memory} {n k : Nat} (h : Memory.wfFrom n m = true) (hk : k ≤ n) :
    Memory.wfFrom k m = true := by
  cases m with
  | nil => rfl
  | cons cell m =>
    obtain ⟨b, w⟩ := cell
    simp only [Memory.wfFrom, Bool.and_eq_true, decide_eq_true_eq] at h ⊢
    obtain ⟨⟨⟨hn, hb⟩, hw⟩, hm⟩ := h
    exact ⟨⟨⟨by omega, hb⟩, hw⟩, hm⟩

/-- A write keeps the canonical form. -/
theorem Memory.write_wfFrom {m : Memory} {n a : Nat} (v : Byte) (hn : n ≤ a) (ha : a < 2 ^ 16)
    (h : Memory.wfFrom n m = true) : Memory.wfFrom n (Memory.write m a v) = true := by
  induction m generalizing n with
  | nil => exact Memory.cons_wf v hn ha rfl rfl
  | cons cell m ih =>
    obtain ⟨b, w⟩ := cell
    have h' := h
    simp only [Memory.wfFrom, Bool.and_eq_true, decide_eq_true_eq] at h
    obtain ⟨⟨⟨hb, hb'⟩, hw⟩, hm⟩ := h
    unfold Memory.write
    split
    · rename_i hab
      refine Memory.cons_wf v hn ha ?_ h'
      simp only [Memory.wfFrom, Bool.and_eq_true, decide_eq_true_eq]
      exact ⟨⟨⟨by omega, hb'⟩, hw⟩, hm⟩
    · split
      · rename_i hab
        subst hab
        exact Memory.cons_wf v hn ha hm (Memory.wf_lower hm (by omega))
      · rename_i hab hne
        simp only [Memory.wfFrom, Bool.and_eq_true, decide_eq_true_eq]
        exact ⟨⟨⟨hb, hb'⟩, hw⟩, ih (by omega) hm⟩

theorem Memory.write_wf {m : Memory} {a : Nat} (v : Byte) (ha : a < 2 ^ 16) (h : m.wf = true) :
    (m.write a v).wf = true := Memory.write_wfFrom v (Nat.zero_le a) ha h

/-! ## The machine's memory -/

/-- Reading a byte after a store: the value at the address if a write reaches it, else what was there. -/
theorem State.read_write {s : State} (h : s.mem.wf = true) (a b : Word) (v : Byte) :
    (s.write a v).read b = if b = a ∧ writable s.cfg a = true then v else s.read b := by
  unfold State.read State.write
  by_cases hw : writable s.cfg a = true
  · simp only [hw, if_true, and_true]
    by_cases hab : b = a
    · subst hab
      simpa using Memory.read_write_same b.toNat v h
    · rw [if_neg hab]
      exact Memory.read_write_ne s.mem v (fun e => hab (BitVec.eq_of_toNat_eq e))
  · simp [hw]

/-- A store leaves every other address alone. -/
theorem State.read_write_ne (s : State) {a b : Word} (v : Byte) (hab : b ≠ a) :
    (s.write a v).read b = s.read b := by
  unfold State.read State.write
  split
  · exact Memory.read_write_ne s.mem v (fun e => hab (BitVec.eq_of_toNat_eq e))
  · rfl

/-- A store keeps the canonical form. -/
theorem State.write_wf {s : State} (h : s.mem.wf = true) (a : Word) (v : Byte) :
    (s.write a v).mem.wf = true := by
  unfold State.write
  split
  · exact Memory.write_wf v a.isLt h
  · exact h

theorem State.write16_wf {s : State} (h : s.mem.wf = true) (a v : Word) : (s.write16 a v).mem.wf = true :=
  State.write_wf (State.write_wf h _ _) _ _

theorem State.push_wf {s : State} (h : s.mem.wf = true) (v : Word) : (s.push v).mem.wf = true :=
  State.write_wf (State.write_wf (s := { s with sp := s.sp - 2 }) h _ _) _ _

/-- Placing bytes from outside keeps the canonical form. -/
theorem State.place_wf {s : State} (h : s.mem.wf = true) (a : Word) (vs : List Byte) :
    (s.place a vs).mem.wf = true := by
  induction vs generalizing s a with
  | nil => exact h
  | cons v vs ih => exact ih (Memory.write_wf v a.isLt h) (a + 1)

/-- The memory right after reset has the canonical form. -/
theorem State.reset_wf : State.reset.mem.wf = true := rfl

end Sys2Proof.Machine
end

