-- ==== Sys2Proof/Laws/Operands.lean ====
section
/-! SUPPORT. Bytes and words, `F` as a byte, registers, pairs and index halves: what is read after a write. -/

namespace Sys2Proof

/-! ## Bytes and words -/

theorem join_toNat (h l : Byte) : (join h l).toNat = h.toNat * 256 + l.toNat := by
  have e : (join h l).toNat = h.toNat <<< 8 ||| l.toNat := BitVec.toNat_append h l
  rw [e, Nat.shiftLeft_eq, Nat.mul_comm h.toNat, ← Nat.two_pow_add_eq_or_of_lt l.isLt]

theorem hi_toNat (v : Word) : (hi v).toNat = v.toNat / 256 := by
  have hv := v.isLt
  simp only [hi, BitVec.extractLsb'_toNat, Nat.shiftRight_eq_div_pow]
  omega

theorem lo_toNat (v : Word) : (lo v).toNat = v.toNat % 256 := by
  simp [lo, BitVec.extractLsb'_toNat]

@[simp] theorem hi_join (h l : Byte) : hi (join h l) = h := by
  have hl := l.isLt
  apply BitVec.eq_of_toNat_eq
  rw [hi_toNat, join_toNat]
  omega

@[simp] theorem lo_join (h l : Byte) : lo (join h l) = l := by
  have hl := l.isLt
  apply BitVec.eq_of_toNat_eq
  rw [lo_toNat, join_toNat]
  omega

@[simp] theorem join_hi_lo (v : Word) : join (hi v) (lo v) = v := by
  apply BitVec.eq_of_toNat_eq
  rw [join_toNat, hi_toNat, lo_toNat]
  omega

namespace Machine

/-! ## `F` as a byte (R102) -/

@[simp] theorem Flags.ofByte_toByte (f : Flags) : Flags.ofByte f.toByte = f := by
  obtain ⟨sf, zf, f5, hf, f3, pv, nf, cf⟩ := f
  revert sf zf f5 hf f3 pv nf cf
  decide

@[simp] theorem Flags.toByte_ofByte (v : Byte) : (Flags.ofByte v).toByte = v := by
  revert v
  decide

/-! ## Registers -/

/-- `State.set` writes the one register and no other. -/
@[simp] theorem State.get_set (s : State) (k t : Reg8) (v : Byte) :
    (s.set k v).get t = if t = k then v else s.get t := by
  cases k <;> cases t <;> rfl

@[simp] theorem State.get_write (s : State) (a : Word) (v : Byte) (k : Reg8) : (s.write a v).get k = s.get k := by
  cases k <;> rfl

@[simp] theorem State.get_setFlags (s : State) (n : Named) (k : Reg8) : (s.setFlags n).get k = s.get k := by
  cases k <;> rfl

@[simp] theorem State.get_goto (s : State) (a : Word) (k : Reg8) : (s.goto a).get k = s.get k := by
  cases k <;> rfl

@[simp] theorem State.get_advance (s : State) (n : Nat) (k : Reg8) : (s.advance n).get k = s.get k := by
  cases k <;> rfl

/-! ## Pairs -/

@[simp] theorem State.bc_setBC (s : State) (v : Word) : (s.setBC v).bc = v := join_hi_lo v
@[simp] theorem State.de_setDE (s : State) (v : Word) : (s.setDE v).de = v := join_hi_lo v
@[simp] theorem State.hl_setHL (s : State) (v : Word) : (s.setHL v).hl = v := join_hi_lo v

/-- `F` takes the low byte exactly (R431). -/
@[simp] theorem State.af_setAF (s : State) (v : Word) : (s.setAF v).af = v := by
  simp [State.setAF, State.af]

@[simp] theorem State.pair_setPair (s : State) (q : Pair) (v : Word) : (s.setPair q v).pair q = v := by
  cases q <;> simp [State.setPair, State.pair]

@[simp] theorem State.pairAF_setPairAF (s : State) (q : PairAF) (v : Word) : (s.setPairAF q v).pairAF q = v := by
  cases q <;> simp [State.setPairAF, State.pairAF]

@[simp] theorem State.setPair_read (s : State) (q : Pair) (v y : Word) : (s.setPair q v).read y = s.read y := by
  cases q <;> rfl

@[simp] theorem State.setPairAF_read (s : State) (q : PairAF) (v y : Word) :
    (s.setPairAF q v).read y = s.read y := by
  cases q <;> rfl

/-! ## Index registers -/

@[simp] theorem State.index_setIndex (s : State) (p k : IndexReg) (v : Word) :
    (s.setIndex p v).index k = if k = p then v else s.index k := by
  cases p <;> cases k <;> rfl

/-- Writing a half leaves the other half (R103, R417). -/
@[simp] theorem State.half_setHalf (s : State) (p : IndexReg) (j k : Half) (v : Byte) :
    (s.setHalf p j v).half p k = if k = j then v else s.half p k := by
  cases j <;> cases k <;> simp [State.setHalf, State.half]

@[simp] theorem State.setHalf_read (s : State) (p : IndexReg) (k : Half) (v : Byte) (y : Word) :
    (s.setHalf p k v).read y = s.read y := by
  cases k <;> rfl

end Machine
end Sys2Proof
end

