-- ==== Sys2Proof/Laws/Ops.lean ====
section
/-! SUPPORT. One lemma per shared operation that says what it can do: 16-bit accesses, the stack, the one way in and the
one way back, the boundary, what surrounds an instruction. -/

namespace Sys2Proof.Machine

/-! ## 16-bit accesses and the stack -/

theorem succ_ne (a : Word) : a + 1 ≠ a := by bv_omega

theorem pred_ne (a : Word) : a - 1 ≠ a - 2 := by bv_omega

/-- A 16-bit store, byte by byte (R203, R206). -/
theorem State.read_write16 {s : State} (hm : s.mem.wf = true) (a b v : Word) :
    (s.write16 a v).read b =
      if b = a + 1 ∧ writable s.cfg (a + 1) = true then hi v
      else if b = a ∧ writable s.cfg a = true then lo v else s.read b := by
  unfold State.write16
  rw [State.read_write (State.write_wf hm _ _), State.read_write hm]
  rfl

/-- A push, byte by byte (R230). -/
theorem State.read_push {s : State} (hm : s.mem.wf = true) (b v : Word) :
    (s.push v).read b =
      if b = s.sp - 2 ∧ writable s.cfg (s.sp - 2) = true then lo v
      else if b = s.sp - 1 ∧ writable s.cfg (s.sp - 1) = true then hi v else s.read b := by
  unfold State.push
  rw [State.read_write (State.write_wf (s := { s with sp := s.sp - 2 }) hm _ _),
    State.read_write (s := { s with sp := s.sp - 2 }) hm]
  rfl

@[simp] theorem State.push_sp (s : State) (v : Word) : (s.push v).sp = s.sp - 2 := rfl

/-- A push changes `SP` and memory only. -/
theorem State.push_eq (s : State) (v : Word) : s.push v = { s with sp := s.sp - 2, mem := (s.push v).mem } := rfl

/-- What was pushed is on top (R230), where both bytes can be written. -/
theorem State.top_push {s : State} (hm : s.mem.wf = true) (v : Word)
    (hh : writable s.cfg (s.sp - 1) = true) (hl : writable s.cfg (s.sp - 2) = true) : (s.push v).top = v := by
  have e : s.sp - 2 + 1 = s.sp - 1 := by bv_omega
  unfold State.top
  rw [State.read_push hm, State.read_push hm, State.push_sp, e, if_neg (fun h => pred_ne _ h.1),
    if_pos ⟨rfl, hh⟩, if_pos ⟨rfl, hl⟩, join_hi_lo]

/-- Entering pushes the return address and continues at the target (R713, R903). -/
theorem State.enter_eq (s : State) (ret target : Word) :
    s.enter ret target = { s with sp := s.sp - 2, mem := (s.push ret).mem, pc := target } := rfl

/-- Leaving pops the program counter (R711). -/
theorem State.leave_eq (s : State) : s.leave = { s with sp := s.sp + 2, pc := s.top } := rfl

/-! ## The boundary -/

/-- An instruction is fetched exactly where nothing is accepted and the CPU is not halted (R902). -/
theorem State.boundary_eq_none (s : State) :
    s.boundary = none ↔
      s.asserted.reset = false ∧ s.asserted.nmi = false ∧ (s.asserted.int && s.iff1 && !s.intInhibit) = false ∧
        s.halted = false := by
  simp only [State.boundary]
  cases s.asserted.reset <;> cases s.asserted.nmi <;> cases s.halted <;>
    cases (s.asserted.int && s.iff1 && !s.intInhibit) <;> simp

/-- A step that executes an instruction (R902, R223). -/
theorem step_instr {s : State} {i : Instr} (hb : s.boundary = none) (hd : decode s.fetch = .instr i) :
    step s = finishing s.diPending (exec i s.begin) := by
  simp [step, hb, hd]

/-- A step that refuses (R313). -/
theorem step_rejected {s : State} {e : DecodeError} (hb : s.boundary = none) (hd : decode s.fetch = .rejected e) :
    step s = .refused (.reservedEncoding e) := by
  simp [step, hb, hd]

/-- A boundary that takes an event, or leaves the CPU halted, is the whole step (R902). -/
theorem step_event {s : State} {o : Result} (hb : s.boundary = some o) : step s = o := by
  simp [step, hb]

/-- `finishing` answers a next state exactly where the instruction does. -/
theorem finishing_next {w : Bool} {o : Result} {t : State} (h : finishing w o = .next t) :
    ∃ u, o = .next u ∧ t = u.finish w := by
  cases o <;> simp [finishing] at h
  exact ⟨_, rfl, h.symm⟩

/-! ## Writing `F` -/

/-- The six named flags are the given ones (R128). -/
@[simp] theorem State.setFlags_named (s : State) (n : Named) : (s.setFlags n).f.named = n := rfl

/-- A flag write changes `F` and takes two draws. -/
theorem State.setFlags_eq (s : State) (n : Named) :
    s.setFlags n = { s with f := (s.setFlags n).f, draws := s.draws + 2 } := rfl

/-- What the flags of `ADD rr,A` can be, in both readings (R558, R102, log 17). -/
theorem State.freeCarry_carryFree (s : State) : CarryFree s s.freeCarry :=
  ⟨rfl, fun h => by simp [State.freeCarry_f, h]⟩

end Sys2Proof.Machine
end

