-- ==== Sys2Proof/Laws/PerInstr.lean ====
section
/-! SUPPORT. Statements made per instruction. `EncodedLength`: an encoding has one to four bytes (30_encoding.md R300). -/

namespace Sys2Proof.Laws.EncodedLength

/-- The encoding has one to four bytes. -/
def Statement (i : Instr) : Prop := 1 ≤ (encode i).length ∧ (encode i).length ≤ 4

/-- From the length of the encoding. -/
theorem of_length {i : Instr} {n : Nat} (h : (encode i).length = n) (h1 : 1 ≤ n) (h4 : n ≤ 4) : Statement i :=
  ⟨h ▸ h1, h ▸ h4⟩

theorem ldRR (t : Reg8) (r : Reg8) : Statement (.ldRR t r) :=
  of_length (n := 1) rfl (by decide) (by decide)
theorem ldRN (t : Reg8) (n : Byte) : Statement (.ldRN t n) :=
  of_length (n := 2) rfl (by decide) (by decide)
theorem ldRAtHL (t : Reg8) : Statement (.ldRAtHL t) :=
  of_length (n := 1) rfl (by decide) (by decide)
theorem ldAtHLR (r : Reg8) : Statement (.ldAtHLR r) :=
  of_length (n := 1) rfl (by decide) (by decide)
theorem ldAtHLN (n : Byte) : Statement (.ldAtHLN n) :=
  of_length (n := 2) rfl (by decide) (by decide)
theorem ldRAtIXd (t : Reg8) (d : Byte) : Statement (.ldRAtIXd t d) :=
  of_length (n := 3) rfl (by decide) (by decide)
theorem ldAtIXdR (d : Byte) (r : Reg8) : Statement (.ldAtIXdR d r) :=
  of_length (n := 3) rfl (by decide) (by decide)
theorem ldAtIXdN (d : Byte) (n : Byte) : Statement (.ldAtIXdN d n) :=
  of_length (n := 4) rfl (by decide) (by decide)
theorem ldRAtIYd (t : Reg8) (d : Byte) : Statement (.ldRAtIYd t d) :=
  of_length (n := 3) rfl (by decide) (by decide)
theorem ldAtIYdR (d : Byte) (r : Reg8) : Statement (.ldAtIYdR d r) :=
  of_length (n := 3) rfl (by decide) (by decide)
theorem ldAtIYdN (d : Byte) (n : Byte) : Statement (.ldAtIYdN d n) :=
  of_length (n := 4) rfl (by decide) (by decide)
theorem ldAAtNN (nn : Word) : Statement (.ldAAtNN nn) :=
  of_length (n := 3) rfl (by decide) (by decide)
theorem ldAtNNA (nn : Word) : Statement (.ldAtNNA nn) :=
  of_length (n := 3) rfl (by decide) (by decide)
theorem ldRIXH (t : Reg8) : Statement (.ldRIXH t) :=
  of_length (n := 2) rfl (by decide) (by decide)
theorem ldIXHR (r : Reg8) : Statement (.ldIXHR r) :=
  of_length (n := 2) rfl (by decide) (by decide)
theorem ldIXHN (n : Byte) : Statement (.ldIXHN n) :=
  of_length (n := 3) rfl (by decide) (by decide)
theorem ldRIXL (t : Reg8) : Statement (.ldRIXL t) :=
  of_length (n := 2) rfl (by decide) (by decide)
theorem ldIXLR (r : Reg8) : Statement (.ldIXLR r) :=
  of_length (n := 2) rfl (by decide) (by decide)
theorem ldIXLN (n : Byte) : Statement (.ldIXLN n) :=
  of_length (n := 3) rfl (by decide) (by decide)
theorem ldRIYH (t : Reg8) : Statement (.ldRIYH t) :=
  of_length (n := 2) rfl (by decide) (by decide)
theorem ldIYHR (r : Reg8) : Statement (.ldIYHR r) :=
  of_length (n := 2) rfl (by decide) (by decide)
theorem ldIYHN (n : Byte) : Statement (.ldIYHN n) :=
  of_length (n := 3) rfl (by decide) (by decide)
theorem ldRIYL (t : Reg8) : Statement (.ldRIYL t) :=
  of_length (n := 2) rfl (by decide) (by decide)
theorem ldIYLR (r : Reg8) : Statement (.ldIYLR r) :=
  of_length (n := 2) rfl (by decide) (by decide)
theorem ldIYLN (n : Byte) : Statement (.ldIYLN n) :=
  of_length (n := 3) rfl (by decide) (by decide)
theorem ldRRNN (q : Pair) (nn : Word) : Statement (.ldRRNN q nn) :=
  of_length (n := 3) rfl (by decide) (by decide)
theorem ldHLAtNN (nn : Word) : Statement (.ldHLAtNN nn) :=
  of_length (n := 3) rfl (by decide) (by decide)
theorem ldAtNNHL (nn : Word) : Statement (.ldAtNNHL nn) :=
  of_length (n := 3) rfl (by decide) (by decide)
theorem ldRRAtNN (q : Pair) (nn : Word) : Statement (.ldRRAtNN q nn) :=
  of_length (n := 4) rfl (by decide) (by decide)
theorem ldAtNNRR (q : Pair) (nn : Word) : Statement (.ldAtNNRR q nn) :=
  of_length (n := 4) rfl (by decide) (by decide)
theorem ldIXNN (nn : Word) : Statement (.ldIXNN nn) :=
  of_length (n := 4) rfl (by decide) (by decide)
theorem ldIXAtNN (nn : Word) : Statement (.ldIXAtNN nn) :=
  of_length (n := 4) rfl (by decide) (by decide)
theorem ldAtNNIX (nn : Word) : Statement (.ldAtNNIX nn) :=
  of_length (n := 4) rfl (by decide) (by decide)
theorem ldIYNN (nn : Word) : Statement (.ldIYNN nn) :=
  of_length (n := 4) rfl (by decide) (by decide)
theorem ldIYAtNN (nn : Word) : Statement (.ldIYAtNN nn) :=
  of_length (n := 4) rfl (by decide) (by decide)
theorem ldAtNNIY (nn : Word) : Statement (.ldAtNNIY nn) :=
  of_length (n := 4) rfl (by decide) (by decide)
theorem pushRR (q : PairAF) : Statement (.pushRR q) :=
  of_length (n := 1) rfl (by decide) (by decide)
theorem popRR (q : PairAF) : Statement (.popRR q) :=
  of_length (n := 1) rfl (by decide) (by decide)
theorem pushNN (nn : Word) : Statement (.pushNN nn) :=
  of_length (n := 4) rfl (by decide) (by decide)
theorem addAR (r : Reg8) : Statement (.addAR r) :=
  of_length (n := 1) rfl (by decide) (by decide)
theorem addAN (n : Byte) : Statement (.addAN n) :=
  of_length (n := 2) rfl (by decide) (by decide)
theorem addAAtIXd (d : Byte) : Statement (.addAAtIXd d) :=
  of_length (n := 3) rfl (by decide) (by decide)
theorem addAAtIYd (d : Byte) : Statement (.addAAtIYd d) :=
  of_length (n := 3) rfl (by decide) (by decide)
theorem adcAR (r : Reg8) : Statement (.adcAR r) :=
  of_length (n := 1) rfl (by decide) (by decide)
theorem adcAN (n : Byte) : Statement (.adcAN n) :=
  of_length (n := 2) rfl (by decide) (by decide)
theorem adcAAtIXd (d : Byte) : Statement (.adcAAtIXd d) :=
  of_length (n := 3) rfl (by decide) (by decide)
theorem adcAAtIYd (d : Byte) : Statement (.adcAAtIYd d) :=
  of_length (n := 3) rfl (by decide) (by decide)
theorem subR (r : Reg8) : Statement (.subR r) :=
  of_length (n := 1) rfl (by decide) (by decide)
theorem subN (n : Byte) : Statement (.subN n) :=
  of_length (n := 2) rfl (by decide) (by decide)
theorem subAtIXd (d : Byte) : Statement (.subAtIXd d) :=
  of_length (n := 3) rfl (by decide) (by decide)
theorem subAtIYd (d : Byte) : Statement (.subAtIYd d) :=
  of_length (n := 3) rfl (by decide) (by decide)
theorem sbcAR (r : Reg8) : Statement (.sbcAR r) :=
  of_length (n := 1) rfl (by decide) (by decide)
theorem sbcAN (n : Byte) : Statement (.sbcAN n) :=
  of_length (n := 2) rfl (by decide) (by decide)
theorem sbcAAtIXd (d : Byte) : Statement (.sbcAAtIXd d) :=
  of_length (n := 3) rfl (by decide) (by decide)
theorem sbcAAtIYd (d : Byte) : Statement (.sbcAAtIYd d) :=
  of_length (n := 3) rfl (by decide) (by decide)
theorem andR (r : Reg8) : Statement (.andR r) :=
  of_length (n := 1) rfl (by decide) (by decide)
theorem andN (n : Byte) : Statement (.andN n) :=
  of_length (n := 2) rfl (by decide) (by decide)
theorem andAtIXd (d : Byte) : Statement (.andAtIXd d) :=
  of_length (n := 3) rfl (by decide) (by decide)
theorem andAtIYd (d : Byte) : Statement (.andAtIYd d) :=
  of_length (n := 3) rfl (by decide) (by decide)
theorem xorR (r : Reg8) : Statement (.xorR r) :=
  of_length (n := 1) rfl (by decide) (by decide)
theorem xorN (n : Byte) : Statement (.xorN n) :=
  of_length (n := 2) rfl (by decide) (by decide)
theorem xorAtIXd (d : Byte) : Statement (.xorAtIXd d) :=
  of_length (n := 3) rfl (by decide) (by decide)
theorem xorAtIYd (d : Byte) : Statement (.xorAtIYd d) :=
  of_length (n := 3) rfl (by decide) (by decide)
theorem orR (r : Reg8) : Statement (.orR r) :=
  of_length (n := 1) rfl (by decide) (by decide)
theorem orN (n : Byte) : Statement (.orN n) :=
  of_length (n := 2) rfl (by decide) (by decide)
theorem orAtIXd (d : Byte) : Statement (.orAtIXd d) :=
  of_length (n := 3) rfl (by decide) (by decide)
theorem orAtIYd (d : Byte) : Statement (.orAtIYd d) :=
  of_length (n := 3) rfl (by decide) (by decide)
theorem cpR (r : Reg8) : Statement (.cpR r) :=
  of_length (n := 1) rfl (by decide) (by decide)
theorem cpN (n : Byte) : Statement (.cpN n) :=
  of_length (n := 2) rfl (by decide) (by decide)
theorem cpAtIXd (d : Byte) : Statement (.cpAtIXd d) :=
  of_length (n := 3) rfl (by decide) (by decide)
theorem cpAtIYd (d : Byte) : Statement (.cpAtIYd d) :=
  of_length (n := 3) rfl (by decide) (by decide)
theorem incR (t : Reg8) : Statement (.incR t) :=
  of_length (n := 1) rfl (by decide) (by decide)
theorem incAtIXd (d : Byte) : Statement (.incAtIXd d) :=
  of_length (n := 3) rfl (by decide) (by decide)
theorem incAtIYd (d : Byte) : Statement (.incAtIYd d) :=
  of_length (n := 3) rfl (by decide) (by decide)
theorem decR (t : Reg8) : Statement (.decR t) :=
  of_length (n := 1) rfl (by decide) (by decide)
theorem decAtIXd (d : Byte) : Statement (.decAtIXd d) :=
  of_length (n := 3) rfl (by decide) (by decide)
theorem decAtIYd (d : Byte) : Statement (.decAtIYd d) :=
  of_length (n := 3) rfl (by decide) (by decide)
theorem testN (n : Byte) : Statement (.testN n) :=
  of_length (n := 3) rfl (by decide) (by decide)
theorem addHLRR (q : Pair) : Statement (.addHLRR q) :=
  of_length (n := 1) rfl (by decide) (by decide)
theorem addIXRR (q : PairXY) : Statement (.addIXRR q) :=
  of_length (n := 2) rfl (by decide) (by decide)
theorem addIYRR (q : PairXY) : Statement (.addIYRR q) :=
  of_length (n := 2) rfl (by decide) (by decide)
theorem adcHLRR (q : Pair) : Statement (.adcHLRR q) :=
  of_length (n := 2) rfl (by decide) (by decide)
theorem sbcHLRR (q : Pair) : Statement (.sbcHLRR q) :=
  of_length (n := 2) rfl (by decide) (by decide)
theorem incRR (q : Pair) : Statement (.incRR q) :=
  of_length (n := 1) rfl (by decide) (by decide)
theorem decRR (q : Pair) : Statement (.decRR q) :=
  of_length (n := 1) rfl (by decide) (by decide)
theorem addHLNN (nn : Word) : Statement (.addHLNN nn) :=
  of_length (n := 4) rfl (by decide) (by decide)
theorem addDENN (nn : Word) : Statement (.addDENN nn) :=
  of_length (n := 4) rfl (by decide) (by decide)
theorem addBCNN (nn : Word) : Statement (.addBCNN nn) :=
  of_length (n := 4) rfl (by decide) (by decide)
theorem rlcR (r : Reg8) : Statement (.rlcR r) :=
  of_length (n := 2) rfl (by decide) (by decide)
theorem rlcAtIXd (d : Byte) : Statement (.rlcAtIXd d) :=
  of_length (n := 4) rfl (by decide) (by decide)
theorem rlcAtIXdR (d : Byte) (r : Reg8) : Statement (.rlcAtIXdR d r) :=
  of_length (n := 4) rfl (by decide) (by decide)
theorem rlcAtIYd (d : Byte) : Statement (.rlcAtIYd d) :=
  of_length (n := 4) rfl (by decide) (by decide)
theorem rlcAtIYdR (d : Byte) (r : Reg8) : Statement (.rlcAtIYdR d r) :=
  of_length (n := 4) rfl (by decide) (by decide)
theorem rrcR (r : Reg8) : Statement (.rrcR r) :=
  of_length (n := 2) rfl (by decide) (by decide)
theorem rrcAtIXd (d : Byte) : Statement (.rrcAtIXd d) :=
  of_length (n := 4) rfl (by decide) (by decide)
theorem rrcAtIXdR (d : Byte) (r : Reg8) : Statement (.rrcAtIXdR d r) :=
  of_length (n := 4) rfl (by decide) (by decide)
theorem rrcAtIYd (d : Byte) : Statement (.rrcAtIYd d) :=
  of_length (n := 4) rfl (by decide) (by decide)
theorem rrcAtIYdR (d : Byte) (r : Reg8) : Statement (.rrcAtIYdR d r) :=
  of_length (n := 4) rfl (by decide) (by decide)
theorem rlR (r : Reg8) : Statement (.rlR r) :=
  of_length (n := 2) rfl (by decide) (by decide)
theorem rlAtIXd (d : Byte) : Statement (.rlAtIXd d) :=
  of_length (n := 4) rfl (by decide) (by decide)
theorem rlAtIXdR (d : Byte) (r : Reg8) : Statement (.rlAtIXdR d r) :=
  of_length (n := 4) rfl (by decide) (by decide)
theorem rlAtIYd (d : Byte) : Statement (.rlAtIYd d) :=
  of_length (n := 4) rfl (by decide) (by decide)
theorem rlAtIYdR (d : Byte) (r : Reg8) : Statement (.rlAtIYdR d r) :=
  of_length (n := 4) rfl (by decide) (by decide)
theorem rrR (r : Reg8) : Statement (.rrR r) :=
  of_length (n := 2) rfl (by decide) (by decide)
theorem rrAtIXd (d : Byte) : Statement (.rrAtIXd d) :=
  of_length (n := 4) rfl (by decide) (by decide)
theorem rrAtIXdR (d : Byte) (r : Reg8) : Statement (.rrAtIXdR d r) :=
  of_length (n := 4) rfl (by decide) (by decide)
theorem rrAtIYd (d : Byte) : Statement (.rrAtIYd d) :=
  of_length (n := 4) rfl (by decide) (by decide)
theorem rrAtIYdR (d : Byte) (r : Reg8) : Statement (.rrAtIYdR d r) :=
  of_length (n := 4) rfl (by decide) (by decide)
theorem slaR (r : Reg8) : Statement (.slaR r) :=
  of_length (n := 2) rfl (by decide) (by decide)
theorem slaAtIXd (d : Byte) : Statement (.slaAtIXd d) :=
  of_length (n := 4) rfl (by decide) (by decide)
theorem slaAtIXdR (d : Byte) (r : Reg8) : Statement (.slaAtIXdR d r) :=
  of_length (n := 4) rfl (by decide) (by decide)
theorem slaAtIYd (d : Byte) : Statement (.slaAtIYd d) :=
  of_length (n := 4) rfl (by decide) (by decide)
theorem slaAtIYdR (d : Byte) (r : Reg8) : Statement (.slaAtIYdR d r) :=
  of_length (n := 4) rfl (by decide) (by decide)
theorem sraR (r : Reg8) : Statement (.sraR r) :=
  of_length (n := 2) rfl (by decide) (by decide)
theorem sraAtIXd (d : Byte) : Statement (.sraAtIXd d) :=
  of_length (n := 4) rfl (by decide) (by decide)
theorem sraAtIXdR (d : Byte) (r : Reg8) : Statement (.sraAtIXdR d r) :=
  of_length (n := 4) rfl (by decide) (by decide)
theorem sraAtIYd (d : Byte) : Statement (.sraAtIYd d) :=
  of_length (n := 4) rfl (by decide) (by decide)
theorem sraAtIYdR (d : Byte) (r : Reg8) : Statement (.sraAtIYdR d r) :=
  of_length (n := 4) rfl (by decide) (by decide)
theorem sliR (r : Reg8) : Statement (.sliR r) :=
  of_length (n := 2) rfl (by decide) (by decide)
theorem sliAtIXd (d : Byte) : Statement (.sliAtIXd d) :=
  of_length (n := 4) rfl (by decide) (by decide)
theorem sliAtIXdR (d : Byte) (r : Reg8) : Statement (.sliAtIXdR d r) :=
  of_length (n := 4) rfl (by decide) (by decide)
theorem sliAtIYd (d : Byte) : Statement (.sliAtIYd d) :=
  of_length (n := 4) rfl (by decide) (by decide)
theorem sliAtIYdR (d : Byte) (r : Reg8) : Statement (.sliAtIYdR d r) :=
  of_length (n := 4) rfl (by decide) (by decide)
theorem srlR (r : Reg8) : Statement (.srlR r) :=
  of_length (n := 2) rfl (by decide) (by decide)
theorem srlAtIXd (d : Byte) : Statement (.srlAtIXd d) :=
  of_length (n := 4) rfl (by decide) (by decide)
theorem srlAtIXdR (d : Byte) (r : Reg8) : Statement (.srlAtIXdR d r) :=
  of_length (n := 4) rfl (by decide) (by decide)
theorem srlAtIYd (d : Byte) : Statement (.srlAtIYd d) :=
  of_length (n := 4) rfl (by decide) (by decide)
theorem srlAtIYdR (d : Byte) (r : Reg8) : Statement (.srlAtIYdR d r) :=
  of_length (n := 4) rfl (by decide) (by decide)
theorem bitBR (b : BitVec 3) (r : Reg8) : Statement (.bitBR b r) :=
  of_length (n := 2) rfl (by decide) (by decide)
theorem bitBAtHL (b : BitVec 3) : Statement (.bitBAtHL b) :=
  of_length (n := 2) rfl (by decide) (by decide)
theorem resBR (b : BitVec 3) (r : Reg8) : Statement (.resBR b r) :=
  of_length (n := 2) rfl (by decide) (by decide)
theorem resBAtHL (b : BitVec 3) : Statement (.resBAtHL b) :=
  of_length (n := 2) rfl (by decide) (by decide)
theorem setBR (b : BitVec 3) (r : Reg8) : Statement (.setBR b r) :=
  of_length (n := 2) rfl (by decide) (by decide)
theorem setBAtHL (b : BitVec 3) : Statement (.setBAtHL b) :=
  of_length (n := 2) rfl (by decide) (by decide)
theorem bitBAtIXd (b : BitVec 3) (d : Byte) : Statement (.bitBAtIXd b d) :=
  of_length (n := 4) rfl (by decide) (by decide)
theorem resBAtIXd (b : BitVec 3) (d : Byte) : Statement (.resBAtIXd b d) :=
  of_length (n := 4) rfl (by decide) (by decide)
theorem setBAtIXd (b : BitVec 3) (d : Byte) : Statement (.setBAtIXd b d) :=
  of_length (n := 4) rfl (by decide) (by decide)
theorem resBAtIXdR (b : BitVec 3) (d : Byte) (r : Reg8) : Statement (.resBAtIXdR b d r) :=
  of_length (n := 4) rfl (by decide) (by decide)
theorem setBAtIXdR (b : BitVec 3) (d : Byte) (r : Reg8) : Statement (.setBAtIXdR b d r) :=
  of_length (n := 4) rfl (by decide) (by decide)
theorem bitBAtIYd (b : BitVec 3) (d : Byte) : Statement (.bitBAtIYd b d) :=
  of_length (n := 4) rfl (by decide) (by decide)
theorem resBAtIYd (b : BitVec 3) (d : Byte) : Statement (.resBAtIYd b d) :=
  of_length (n := 4) rfl (by decide) (by decide)
theorem setBAtIYd (b : BitVec 3) (d : Byte) : Statement (.setBAtIYd b d) :=
  of_length (n := 4) rfl (by decide) (by decide)
theorem resBAtIYdR (b : BitVec 3) (d : Byte) (r : Reg8) : Statement (.resBAtIYdR b d r) :=
  of_length (n := 4) rfl (by decide) (by decide)
theorem setBAtIYdR (b : BitVec 3) (d : Byte) (r : Reg8) : Statement (.setBAtIYdR b d r) :=
  of_length (n := 4) rfl (by decide) (by decide)
theorem jpNN (nn : Word) : Statement (.jpNN nn) :=
  of_length (n := 3) rfl (by decide) (by decide)
theorem jpCondNN (cc : Cond) (nn : Word) : Statement (.jpCondNN cc nn) :=
  of_length (n := 3) rfl (by decide) (by decide)
theorem jrE (e : Byte) : Statement (.jrE e) :=
  of_length (n := 2) rfl (by decide) (by decide)
theorem jrCondE (cc : Cond) (e : Byte) : Statement (.jrCondE cc e) :=
  of_length (n := 2) rfl (by decide) (by decide)
theorem djnzE (e : Byte) : Statement (.djnzE e) :=
  of_length (n := 2) rfl (by decide) (by decide)
theorem callNN (nn : Word) : Statement (.callNN nn) :=
  of_length (n := 3) rfl (by decide) (by decide)
theorem callCondNN (cc : Cond) (nn : Word) : Statement (.callCondNN cc nn) :=
  of_length (n := 3) rfl (by decide) (by decide)
theorem retCond (cc : Cond) : Statement (.retCond cc) :=
  of_length (n := 1) rfl (by decide) (by decide)
theorem rstN (v : BitVec 3) : Statement (.rstN v) :=
  of_length (n := 1) rfl (by decide) (by decide)
theorem inAAtN (n : Byte) : Statement (.inAAtN n) :=
  of_length (n := 2) rfl (by decide) (by decide)
theorem inRAtC (t : Reg8) : Statement (.inRAtC t) :=
  of_length (n := 2) rfl (by decide) (by decide)
theorem outAtNA (n : Byte) : Statement (.outAtNA n) :=
  of_length (n := 2) rfl (by decide) (by decide)
theorem outAtCR (t : Reg8) : Statement (.outAtCR t) :=
  of_length (n := 2) rfl (by decide) (by decide)
theorem nextregNN (g : Byte) (n : Byte) : Statement (.nextregNN g n) :=
  of_length (n := 4) rfl (by decide) (by decide)
theorem nextregNA (g : Byte) : Statement (.nextregNA g) :=
  of_length (n := 3) rfl (by decide) (by decide)
theorem ldAAtBC : Statement .ldAAtBC :=
  of_length (n := 1) rfl (by decide) (by decide)
theorem ldAAtDE : Statement .ldAAtDE :=
  of_length (n := 1) rfl (by decide) (by decide)
theorem ldAtBCA : Statement .ldAtBCA :=
  of_length (n := 1) rfl (by decide) (by decide)
theorem ldAtDEA : Statement .ldAtDEA :=
  of_length (n := 1) rfl (by decide) (by decide)
theorem ldAI : Statement .ldAI :=
  of_length (n := 2) rfl (by decide) (by decide)
theorem ldARfsh : Statement .ldARfsh :=
  of_length (n := 2) rfl (by decide) (by decide)
theorem ldIA : Statement .ldIA :=
  of_length (n := 2) rfl (by decide) (by decide)
theorem ldRfshA : Statement .ldRfshA :=
  of_length (n := 2) rfl (by decide) (by decide)
theorem ldIXHIXH : Statement .ldIXHIXH :=
  of_length (n := 2) rfl (by decide) (by decide)
theorem ldIXHIXL : Statement .ldIXHIXL :=
  of_length (n := 2) rfl (by decide) (by decide)
theorem ldIXLIXH : Statement .ldIXLIXH :=
  of_length (n := 2) rfl (by decide) (by decide)
theorem ldIXLIXL : Statement .ldIXLIXL :=
  of_length (n := 2) rfl (by decide) (by decide)
theorem ldIYHIYH : Statement .ldIYHIYH :=
  of_length (n := 2) rfl (by decide) (by decide)
theorem ldIYHIYL : Statement .ldIYHIYL :=
  of_length (n := 2) rfl (by decide) (by decide)
theorem ldIYLIYH : Statement .ldIYLIYH :=
  of_length (n := 2) rfl (by decide) (by decide)
theorem ldIYLIYL : Statement .ldIYLIYL :=
  of_length (n := 2) rfl (by decide) (by decide)
theorem ldSPHL : Statement .ldSPHL :=
  of_length (n := 1) rfl (by decide) (by decide)
theorem ldSPIX : Statement .ldSPIX :=
  of_length (n := 2) rfl (by decide) (by decide)
theorem ldSPIY : Statement .ldSPIY :=
  of_length (n := 2) rfl (by decide) (by decide)
theorem pushIX : Statement .pushIX :=
  of_length (n := 2) rfl (by decide) (by decide)
theorem popIX : Statement .popIX :=
  of_length (n := 2) rfl (by decide) (by decide)
theorem pushIY : Statement .pushIY :=
  of_length (n := 2) rfl (by decide) (by decide)
theorem popIY : Statement .popIY :=
  of_length (n := 2) rfl (by decide) (by decide)
theorem exAFAFAlt : Statement .exAFAFAlt :=
  of_length (n := 1) rfl (by decide) (by decide)
theorem exDEHL : Statement .exDEHL :=
  of_length (n := 1) rfl (by decide) (by decide)
theorem exAtSPHL : Statement .exAtSPHL :=
  of_length (n := 1) rfl (by decide) (by decide)
theorem exAtSPIX : Statement .exAtSPIX :=
  of_length (n := 2) rfl (by decide) (by decide)
theorem exAtSPIY : Statement .exAtSPIY :=
  of_length (n := 2) rfl (by decide) (by decide)
theorem exx : Statement .exx :=
  of_length (n := 1) rfl (by decide) (by decide)
theorem addAAtHL : Statement .addAAtHL :=
  of_length (n := 1) rfl (by decide) (by decide)
theorem addAIXH : Statement .addAIXH :=
  of_length (n := 2) rfl (by decide) (by decide)
theorem addAIXL : Statement .addAIXL :=
  of_length (n := 2) rfl (by decide) (by decide)
theorem addAIYH : Statement .addAIYH :=
  of_length (n := 2) rfl (by decide) (by decide)
theorem addAIYL : Statement .addAIYL :=
  of_length (n := 2) rfl (by decide) (by decide)
theorem adcAAtHL : Statement .adcAAtHL :=
  of_length (n := 1) rfl (by decide) (by decide)
theorem adcAIXH : Statement .adcAIXH :=
  of_length (n := 2) rfl (by decide) (by decide)
theorem adcAIXL : Statement .adcAIXL :=
  of_length (n := 2) rfl (by decide) (by decide)
theorem adcAIYH : Statement .adcAIYH :=
  of_length (n := 2) rfl (by decide) (by decide)
theorem adcAIYL : Statement .adcAIYL :=
  of_length (n := 2) rfl (by decide) (by decide)
theorem subAtHL : Statement .subAtHL :=
  of_length (n := 1) rfl (by decide) (by decide)
theorem subIXH : Statement .subIXH :=
  of_length (n := 2) rfl (by decide) (by decide)
theorem subIXL : Statement .subIXL :=
  of_length (n := 2) rfl (by decide) (by decide)
theorem subIYH : Statement .subIYH :=
  of_length (n := 2) rfl (by decide) (by decide)
theorem subIYL : Statement .subIYL :=
  of_length (n := 2) rfl (by decide) (by decide)
theorem sbcAAtHL : Statement .sbcAAtHL :=
  of_length (n := 1) rfl (by decide) (by decide)
theorem sbcAIXH : Statement .sbcAIXH :=
  of_length (n := 2) rfl (by decide) (by decide)
theorem sbcAIXL : Statement .sbcAIXL :=
  of_length (n := 2) rfl (by decide) (by decide)
theorem sbcAIYH : Statement .sbcAIYH :=
  of_length (n := 2) rfl (by decide) (by decide)
theorem sbcAIYL : Statement .sbcAIYL :=
  of_length (n := 2) rfl (by decide) (by decide)
theorem andAtHL : Statement .andAtHL :=
  of_length (n := 1) rfl (by decide) (by decide)
theorem andIXH : Statement .andIXH :=
  of_length (n := 2) rfl (by decide) (by decide)
theorem andIXL : Statement .andIXL :=
  of_length (n := 2) rfl (by decide) (by decide)
theorem andIYH : Statement .andIYH :=
  of_length (n := 2) rfl (by decide) (by decide)
theorem andIYL : Statement .andIYL :=
  of_length (n := 2) rfl (by decide) (by decide)
theorem xorAtHL : Statement .xorAtHL :=
  of_length (n := 1) rfl (by decide) (by decide)
theorem xorIXH : Statement .xorIXH :=
  of_length (n := 2) rfl (by decide) (by decide)
theorem xorIXL : Statement .xorIXL :=
  of_length (n := 2) rfl (by decide) (by decide)
theorem xorIYH : Statement .xorIYH :=
  of_length (n := 2) rfl (by decide) (by decide)
theorem xorIYL : Statement .xorIYL :=
  of_length (n := 2) rfl (by decide) (by decide)
theorem orAtHL : Statement .orAtHL :=
  of_length (n := 1) rfl (by decide) (by decide)
theorem orIXH : Statement .orIXH :=
  of_length (n := 2) rfl (by decide) (by decide)
theorem orIXL : Statement .orIXL :=
  of_length (n := 2) rfl (by decide) (by decide)
theorem orIYH : Statement .orIYH :=
  of_length (n := 2) rfl (by decide) (by decide)
theorem orIYL : Statement .orIYL :=
  of_length (n := 2) rfl (by decide) (by decide)
theorem cpAtHL : Statement .cpAtHL :=
  of_length (n := 1) rfl (by decide) (by decide)
theorem cpIXH : Statement .cpIXH :=
  of_length (n := 2) rfl (by decide) (by decide)
theorem cpIXL : Statement .cpIXL :=
  of_length (n := 2) rfl (by decide) (by decide)
theorem cpIYH : Statement .cpIYH :=
  of_length (n := 2) rfl (by decide) (by decide)
theorem cpIYL : Statement .cpIYL :=
  of_length (n := 2) rfl (by decide) (by decide)
theorem incAtHL : Statement .incAtHL :=
  of_length (n := 1) rfl (by decide) (by decide)
theorem incIXH : Statement .incIXH :=
  of_length (n := 2) rfl (by decide) (by decide)
theorem incIXL : Statement .incIXL :=
  of_length (n := 2) rfl (by decide) (by decide)
theorem incIYH : Statement .incIYH :=
  of_length (n := 2) rfl (by decide) (by decide)
theorem incIYL : Statement .incIYL :=
  of_length (n := 2) rfl (by decide) (by decide)
theorem decAtHL : Statement .decAtHL :=
  of_length (n := 1) rfl (by decide) (by decide)
theorem decIXH : Statement .decIXH :=
  of_length (n := 2) rfl (by decide) (by decide)
theorem decIXL : Statement .decIXL :=
  of_length (n := 2) rfl (by decide) (by decide)
theorem decIYH : Statement .decIYH :=
  of_length (n := 2) rfl (by decide) (by decide)
theorem decIYL : Statement .decIYL :=
  of_length (n := 2) rfl (by decide) (by decide)
theorem daa : Statement .daa :=
  of_length (n := 1) rfl (by decide) (by decide)
theorem cpl : Statement .cpl :=
  of_length (n := 1) rfl (by decide) (by decide)
theorem neg : Statement .neg :=
  of_length (n := 2) rfl (by decide) (by decide)
theorem ccf : Statement .ccf :=
  of_length (n := 1) rfl (by decide) (by decide)
theorem scf : Statement .scf :=
  of_length (n := 1) rfl (by decide) (by decide)
theorem incIX : Statement .incIX :=
  of_length (n := 2) rfl (by decide) (by decide)
theorem decIX : Statement .decIX :=
  of_length (n := 2) rfl (by decide) (by decide)
theorem incIY : Statement .incIY :=
  of_length (n := 2) rfl (by decide) (by decide)
theorem decIY : Statement .decIY :=
  of_length (n := 2) rfl (by decide) (by decide)
theorem addHLA : Statement .addHLA :=
  of_length (n := 2) rfl (by decide) (by decide)
theorem addDEA : Statement .addDEA :=
  of_length (n := 2) rfl (by decide) (by decide)
theorem addBCA : Statement .addBCA :=
  of_length (n := 2) rfl (by decide) (by decide)
theorem mulDE : Statement .mulDE :=
  of_length (n := 2) rfl (by decide) (by decide)
theorem rlca : Statement .rlca :=
  of_length (n := 1) rfl (by decide) (by decide)
theorem rla : Statement .rla :=
  of_length (n := 1) rfl (by decide) (by decide)
theorem rrca : Statement .rrca :=
  of_length (n := 1) rfl (by decide) (by decide)
theorem rra : Statement .rra :=
  of_length (n := 1) rfl (by decide) (by decide)
theorem rlcAtHL : Statement .rlcAtHL :=
  of_length (n := 2) rfl (by decide) (by decide)
theorem rrcAtHL : Statement .rrcAtHL :=
  of_length (n := 2) rfl (by decide) (by decide)
theorem rlAtHL : Statement .rlAtHL :=
  of_length (n := 2) rfl (by decide) (by decide)
theorem rrAtHL : Statement .rrAtHL :=
  of_length (n := 2) rfl (by decide) (by decide)
theorem slaAtHL : Statement .slaAtHL :=
  of_length (n := 2) rfl (by decide) (by decide)
theorem sraAtHL : Statement .sraAtHL :=
  of_length (n := 2) rfl (by decide) (by decide)
theorem sliAtHL : Statement .sliAtHL :=
  of_length (n := 2) rfl (by decide) (by decide)
theorem srlAtHL : Statement .srlAtHL :=
  of_length (n := 2) rfl (by decide) (by decide)
theorem rld : Statement .rld :=
  of_length (n := 2) rfl (by decide) (by decide)
theorem rrd : Statement .rrd :=
  of_length (n := 2) rfl (by decide) (by decide)
theorem bslaDEB : Statement .bslaDEB :=
  of_length (n := 2) rfl (by decide) (by decide)
theorem bsraDEB : Statement .bsraDEB :=
  of_length (n := 2) rfl (by decide) (by decide)
theorem bsrlDEB : Statement .bsrlDEB :=
  of_length (n := 2) rfl (by decide) (by decide)
theorem bsrfDEB : Statement .bsrfDEB :=
  of_length (n := 2) rfl (by decide) (by decide)
theorem brlcDEB : Statement .brlcDEB :=
  of_length (n := 2) rfl (by decide) (by decide)
theorem mirrorA : Statement .mirrorA :=
  of_length (n := 2) rfl (by decide) (by decide)
theorem swapnib : Statement .swapnib :=
  of_length (n := 2) rfl (by decide) (by decide)
theorem setae : Statement .setae :=
  of_length (n := 2) rfl (by decide) (by decide)
theorem jpAtHL : Statement .jpAtHL :=
  of_length (n := 1) rfl (by decide) (by decide)
theorem jpAtIX : Statement .jpAtIX :=
  of_length (n := 2) rfl (by decide) (by decide)
theorem jpAtIY : Statement .jpAtIY :=
  of_length (n := 2) rfl (by decide) (by decide)
theorem jpAtC : Statement .jpAtC :=
  of_length (n := 2) rfl (by decide) (by decide)
theorem ret : Statement .ret :=
  of_length (n := 1) rfl (by decide) (by decide)
theorem ldi : Statement .ldi :=
  of_length (n := 2) rfl (by decide) (by decide)
theorem ldir : Statement .ldir :=
  of_length (n := 2) rfl (by decide) (by decide)
theorem ldd : Statement .ldd :=
  of_length (n := 2) rfl (by decide) (by decide)
theorem lddr : Statement .lddr :=
  of_length (n := 2) rfl (by decide) (by decide)
theorem cpi : Statement .cpi :=
  of_length (n := 2) rfl (by decide) (by decide)
theorem cpir : Statement .cpir :=
  of_length (n := 2) rfl (by decide) (by decide)
theorem cpd : Statement .cpd :=
  of_length (n := 2) rfl (by decide) (by decide)
theorem cpdr : Statement .cpdr :=
  of_length (n := 2) rfl (by decide) (by decide)
theorem ldix : Statement .ldix :=
  of_length (n := 2) rfl (by decide) (by decide)
theorem ldirx : Statement .ldirx :=
  of_length (n := 2) rfl (by decide) (by decide)
theorem lddx : Statement .lddx :=
  of_length (n := 2) rfl (by decide) (by decide)
theorem lddrx : Statement .lddrx :=
  of_length (n := 2) rfl (by decide) (by decide)
theorem ldpirx : Statement .ldpirx :=
  of_length (n := 2) rfl (by decide) (by decide)
theorem ldws : Statement .ldws :=
  of_length (n := 2) rfl (by decide) (by decide)
theorem inAtC : Statement .inAtC :=
  of_length (n := 2) rfl (by decide) (by decide)
theorem outAtCZero : Statement .outAtCZero :=
  of_length (n := 2) rfl (by decide) (by decide)
theorem ini : Statement .ini :=
  of_length (n := 2) rfl (by decide) (by decide)
theorem inir : Statement .inir :=
  of_length (n := 2) rfl (by decide) (by decide)
theorem ind : Statement .ind :=
  of_length (n := 2) rfl (by decide) (by decide)
theorem indr : Statement .indr :=
  of_length (n := 2) rfl (by decide) (by decide)
theorem outi : Statement .outi :=
  of_length (n := 2) rfl (by decide) (by decide)
theorem otir : Statement .otir :=
  of_length (n := 2) rfl (by decide) (by decide)
theorem outd : Statement .outd :=
  of_length (n := 2) rfl (by decide) (by decide)
theorem otdr : Statement .otdr :=
  of_length (n := 2) rfl (by decide) (by decide)
theorem outinb : Statement .outinb :=
  of_length (n := 2) rfl (by decide) (by decide)
theorem nop : Statement .nop :=
  of_length (n := 1) rfl (by decide) (by decide)
theorem halt : Statement .halt :=
  of_length (n := 1) rfl (by decide) (by decide)
theorem di : Statement .di :=
  of_length (n := 1) rfl (by decide) (by decide)
theorem ei : Statement .ei :=
  of_length (n := 1) rfl (by decide) (by decide)
theorem im0 : Statement .im0 :=
  of_length (n := 2) rfl (by decide) (by decide)
theorem im1 : Statement .im1 :=
  of_length (n := 2) rfl (by decide) (by decide)
theorem im2 : Statement .im2 :=
  of_length (n := 2) rfl (by decide) (by decide)
theorem reti : Statement .reti :=
  of_length (n := 2) rfl (by decide) (by decide)
theorem retn : Statement .retn :=
  of_length (n := 2) rfl (by decide) (by decide)
theorem pixelad : Statement .pixelad :=
  of_length (n := 2) rfl (by decide) (by decide)
theorem pixeldn : Statement .pixeldn :=
  of_length (n := 2) rfl (by decide) (by decide)

end Sys2Proof.Laws.EncodedLength
end

