-- ==== Sys2Proof/Tests/Slice0.lean ====
section
/-! SUPPORT. Tests: what WellFormed refuses, a written-out word of every constructor, one-step vectors of
95_test_vectors.md, and for every statement with hypotheses a state that meets them. -/

namespace Sys2Proof.Tests

open Sys2Proof.Machine

/-! ## WellFormed refuses each ill-formed shape -/

theorem test_wf_refuses_ldRIXH : WellFormed (.ldRIXH .h) = false := by decide
theorem test_wf_refuses_ldRIXL : WellFormed (.ldRIXL .l) = false := by decide
theorem test_wf_refuses_ldRIYH : WellFormed (.ldRIYH .l) = false := by decide
theorem test_wf_refuses_ldRIYL : WellFormed (.ldRIYL .h) = false := by decide
theorem test_wf_refuses_ldIXHR : WellFormed (.ldIXHR .h) = false := by decide
theorem test_wf_refuses_ldIXLR : WellFormed (.ldIXLR .l) = false := by decide
theorem test_wf_refuses_ldIYHR : WellFormed (.ldIYHR .l) = false := by decide
theorem test_wf_refuses_ldIYLR : WellFormed (.ldIYLR .h) = false := by decide
theorem test_wf_refuses_ldRRAtNN : WellFormed (.ldRRAtNN .hl 0x9000) = false := by decide
theorem test_wf_refuses_ldAtNNRR : WellFormed (.ldAtNNRR .hl 0x9000) = false := by decide
theorem test_wf_refuses_jrCondE : WellFormed (.jrCondE .po 0x00) = false := by decide
theorem test_wf_accepts : WellFormed (.ldRIXH .e) = true ∧ WellFormed (.jrCondE .c 0) = true := by decide

/-! ## A word of every constructor, from the encodings of 30_encoding.md -/

theorem test_decode_load_1 : ∀ p ∈ ([
    ([0x5A], .ldRR .e .d),
    ([0x1E, 0xA5], .ldRN .e 0xA5),
    ([0x5E], .ldRAtHL .e),
    ([0x72], .ldAtHLR .d),
    ([0x36, 0xA5], .ldAtHLN 0xA5),
    ([0xDD, 0x5E, 0xFB], .ldRAtIXd .e 0xFB),
    ([0xDD, 0x72, 0xFB], .ldAtIXdR 0xFB .d),
    ([0xDD, 0x36, 0xFB, 0xA5], .ldAtIXdN 0xFB 0xA5),
    ([0xFD, 0x5E, 0xFB], .ldRAtIYd .e 0xFB),
    ([0xFD, 0x72, 0xFB], .ldAtIYdR 0xFB .d),
    ([0xFD, 0x36, 0xFB, 0xA5], .ldAtIYdN 0xFB 0xA5),
    ([0x3A, 0x34, 0x12], .ldAAtNN 0x1234),
    ([0x32, 0x34, 0x12], .ldAtNNA 0x1234),
    ([0xDD, 0x5C], .ldRIXH .e),
    ([0xDD, 0x62], .ldIXHR .d),
    ([0xDD, 0x26, 0xA5], .ldIXHN 0xA5),
    ([0xDD, 0x5D], .ldRIXL .e),
    ([0xDD, 0x6A], .ldIXLR .d),
    ([0xDD, 0x2E, 0xA5], .ldIXLN 0xA5),
    ([0xFD, 0x5C], .ldRIYH .e),
    ([0xFD, 0x62], .ldIYHR .d),
    ([0xFD, 0x26, 0xA5], .ldIYHN 0xA5),
    ([0xFD, 0x5D], .ldRIYL .e),
    ([0xFD, 0x6A], .ldIYLR .d),
    ([0xFD, 0x2E, 0xA5], .ldIYLN 0xA5),
    ([0x11, 0x34, 0x12], .ldRRNN .de 0x1234),
    ([0x2A, 0x34, 0x12], .ldHLAtNN 0x1234),
    ([0x22, 0x34, 0x12], .ldAtNNHL 0x1234),
    ([0xED, 0x5B, 0x34, 0x12], .ldRRAtNN .de 0x1234),
    ([0xED, 0x53, 0x34, 0x12], .ldAtNNRR .de 0x1234)] : List (List Byte × Instr)), decode p.1 = .instr p.2 := by decide

theorem test_decode_load_2 : ∀ p ∈ ([
    ([0xDD, 0x21, 0x34, 0x12], .ldIXNN 0x1234),
    ([0xDD, 0x2A, 0x34, 0x12], .ldIXAtNN 0x1234),
    ([0xDD, 0x22, 0x34, 0x12], .ldAtNNIX 0x1234),
    ([0xFD, 0x21, 0x34, 0x12], .ldIYNN 0x1234),
    ([0xFD, 0x2A, 0x34, 0x12], .ldIYAtNN 0x1234),
    ([0xFD, 0x22, 0x34, 0x12], .ldAtNNIY 0x1234),
    ([0x0A], .ldAAtBC),
    ([0x1A], .ldAAtDE),
    ([0x02], .ldAtBCA),
    ([0x12], .ldAtDEA),
    ([0xED, 0x57], .ldAI),
    ([0xED, 0x5F], .ldARfsh),
    ([0xED, 0x47], .ldIA),
    ([0xED, 0x4F], .ldRfshA),
    ([0xDD, 0x64], .ldIXHIXH),
    ([0xDD, 0x65], .ldIXHIXL),
    ([0xDD, 0x6C], .ldIXLIXH),
    ([0xDD, 0x6D], .ldIXLIXL),
    ([0xFD, 0x64], .ldIYHIYH),
    ([0xFD, 0x65], .ldIYHIYL),
    ([0xFD, 0x6C], .ldIYLIYH),
    ([0xFD, 0x6D], .ldIYLIYL),
    ([0xF9], .ldSPHL),
    ([0xDD, 0xF9], .ldSPIX),
    ([0xFD, 0xF9], .ldSPIY)] : List (List Byte × Instr)), decode p.1 = .instr p.2 := by decide

theorem test_decode_stack_exchange_1 : ∀ p ∈ ([
    ([0xD5], .pushRR .de),
    ([0xD1], .popRR .de),
    ([0xED, 0x8A, 0x12, 0x34], .pushNN 0x1234),
    ([0xDD, 0xE5], .pushIX),
    ([0xDD, 0xE1], .popIX),
    ([0xFD, 0xE5], .pushIY),
    ([0xFD, 0xE1], .popIY),
    ([0x08], .exAFAFAlt),
    ([0xEB], .exDEHL),
    ([0xE3], .exAtSPHL),
    ([0xDD, 0xE3], .exAtSPIX),
    ([0xFD, 0xE3], .exAtSPIY),
    ([0xD9], .exx)] : List (List Byte × Instr)), decode p.1 = .instr p.2 := by decide

theorem test_decode_accumulator_1 : ∀ p ∈ ([
    ([0x82], .addAR .d),
    ([0xC6, 0xA5], .addAN 0xA5),
    ([0xDD, 0x86, 0xFB], .addAAtIXd 0xFB),
    ([0xFD, 0x86, 0xFB], .addAAtIYd 0xFB),
    ([0x8A], .adcAR .d),
    ([0xCE, 0xA5], .adcAN 0xA5),
    ([0xDD, 0x8E, 0xFB], .adcAAtIXd 0xFB),
    ([0xFD, 0x8E, 0xFB], .adcAAtIYd 0xFB),
    ([0x92], .subR .d),
    ([0xD6, 0xA5], .subN 0xA5),
    ([0xDD, 0x96, 0xFB], .subAtIXd 0xFB),
    ([0xFD, 0x96, 0xFB], .subAtIYd 0xFB),
    ([0x9A], .sbcAR .d),
    ([0xDE, 0xA5], .sbcAN 0xA5),
    ([0xDD, 0x9E, 0xFB], .sbcAAtIXd 0xFB),
    ([0xFD, 0x9E, 0xFB], .sbcAAtIYd 0xFB),
    ([0xA2], .andR .d),
    ([0xE6, 0xA5], .andN 0xA5),
    ([0xDD, 0xA6, 0xFB], .andAtIXd 0xFB),
    ([0xFD, 0xA6, 0xFB], .andAtIYd 0xFB),
    ([0xAA], .xorR .d),
    ([0xEE, 0xA5], .xorN 0xA5),
    ([0xDD, 0xAE, 0xFB], .xorAtIXd 0xFB),
    ([0xFD, 0xAE, 0xFB], .xorAtIYd 0xFB),
    ([0xB2], .orR .d),
    ([0xF6, 0xA5], .orN 0xA5),
    ([0xDD, 0xB6, 0xFB], .orAtIXd 0xFB),
    ([0xFD, 0xB6, 0xFB], .orAtIYd 0xFB),
    ([0x86], .addAAtHL),
    ([0xDD, 0x84], .addAIXH)] : List (List Byte × Instr)), decode p.1 = .instr p.2 := by decide

theorem test_decode_accumulator_2 : ∀ p ∈ ([
    ([0xDD, 0x85], .addAIXL),
    ([0xFD, 0x84], .addAIYH),
    ([0xFD, 0x85], .addAIYL),
    ([0x8E], .adcAAtHL),
    ([0xDD, 0x8C], .adcAIXH),
    ([0xDD, 0x8D], .adcAIXL),
    ([0xFD, 0x8C], .adcAIYH),
    ([0xFD, 0x8D], .adcAIYL),
    ([0x96], .subAtHL),
    ([0xDD, 0x94], .subIXH),
    ([0xDD, 0x95], .subIXL),
    ([0xFD, 0x94], .subIYH),
    ([0xFD, 0x95], .subIYL),
    ([0x9E], .sbcAAtHL),
    ([0xDD, 0x9C], .sbcAIXH),
    ([0xDD, 0x9D], .sbcAIXL),
    ([0xFD, 0x9C], .sbcAIYH),
    ([0xFD, 0x9D], .sbcAIYL),
    ([0xA6], .andAtHL),
    ([0xDD, 0xA4], .andIXH),
    ([0xDD, 0xA5], .andIXL),
    ([0xFD, 0xA4], .andIYH),
    ([0xFD, 0xA5], .andIYL),
    ([0xAE], .xorAtHL),
    ([0xDD, 0xAC], .xorIXH),
    ([0xDD, 0xAD], .xorIXL),
    ([0xFD, 0xAC], .xorIYH),
    ([0xFD, 0xAD], .xorIYL),
    ([0xB6], .orAtHL),
    ([0xDD, 0xB4], .orIXH)] : List (List Byte × Instr)), decode p.1 = .instr p.2 := by decide

theorem test_decode_accumulator_3 : ∀ p ∈ ([
    ([0xDD, 0xB5], .orIXL),
    ([0xFD, 0xB4], .orIYH),
    ([0xFD, 0xB5], .orIYL)] : List (List Byte × Instr)), decode p.1 = .instr p.2 := by decide

theorem test_decode_compare_and_flags_1 : ∀ p ∈ ([
    ([0xBA], .cpR .d),
    ([0xFE, 0xA5], .cpN 0xA5),
    ([0xDD, 0xBE, 0xFB], .cpAtIXd 0xFB),
    ([0xFD, 0xBE, 0xFB], .cpAtIYd 0xFB),
    ([0x1C], .incR .e),
    ([0xDD, 0x34, 0xFB], .incAtIXd 0xFB),
    ([0xFD, 0x34, 0xFB], .incAtIYd 0xFB),
    ([0x1D], .decR .e),
    ([0xDD, 0x35, 0xFB], .decAtIXd 0xFB),
    ([0xFD, 0x35, 0xFB], .decAtIYd 0xFB),
    ([0xED, 0x27, 0xA5], .testN 0xA5),
    ([0xBE], .cpAtHL),
    ([0xDD, 0xBC], .cpIXH),
    ([0xDD, 0xBD], .cpIXL),
    ([0xFD, 0xBC], .cpIYH),
    ([0xFD, 0xBD], .cpIYL),
    ([0x34], .incAtHL),
    ([0xDD, 0x24], .incIXH),
    ([0xDD, 0x2C], .incIXL),
    ([0xFD, 0x24], .incIYH),
    ([0xFD, 0x2C], .incIYL),
    ([0x35], .decAtHL),
    ([0xDD, 0x25], .decIXH),
    ([0xDD, 0x2D], .decIXL),
    ([0xFD, 0x25], .decIYH),
    ([0xFD, 0x2D], .decIYL),
    ([0x27], .daa),
    ([0x2F], .cpl),
    ([0xED, 0x44], .neg),
    ([0x3F], .ccf)] : List (List Byte × Instr)), decode p.1 = .instr p.2 := by decide

theorem test_decode_compare_and_flags_2 : ∀ p ∈ ([
    ([0x37], .scf)] : List (List Byte × Instr)), decode p.1 = .instr p.2 := by decide

theorem test_decode_arith16_1 : ∀ p ∈ ([
    ([0x19], .addHLRR .de),
    ([0xDD, 0x19], .addIXRR .de),
    ([0xFD, 0x19], .addIYRR .de),
    ([0xED, 0x5A], .adcHLRR .de),
    ([0xED, 0x52], .sbcHLRR .de),
    ([0x13], .incRR .de),
    ([0x1B], .decRR .de),
    ([0xED, 0x34, 0x34, 0x12], .addHLNN 0x1234),
    ([0xED, 0x35, 0x34, 0x12], .addDENN 0x1234),
    ([0xED, 0x36, 0x34, 0x12], .addBCNN 0x1234),
    ([0xDD, 0x23], .incIX),
    ([0xDD, 0x2B], .decIX),
    ([0xFD, 0x23], .incIY),
    ([0xFD, 0x2B], .decIY),
    ([0xED, 0x31], .addHLA),
    ([0xED, 0x32], .addDEA),
    ([0xED, 0x33], .addBCA),
    ([0xED, 0x30], .mulDE)] : List (List Byte × Instr)), decode p.1 = .instr p.2 := by decide

theorem test_decode_shift_1 : ∀ p ∈ ([
    ([0xCB, 0x02], .rlcR .d),
    ([0xDD, 0xCB, 0xFB, 0x06], .rlcAtIXd 0xFB),
    ([0xDD, 0xCB, 0xFB, 0x02], .rlcAtIXdR 0xFB .d),
    ([0xFD, 0xCB, 0xFB, 0x06], .rlcAtIYd 0xFB),
    ([0xFD, 0xCB, 0xFB, 0x02], .rlcAtIYdR 0xFB .d),
    ([0xCB, 0x0A], .rrcR .d),
    ([0xDD, 0xCB, 0xFB, 0x0E], .rrcAtIXd 0xFB),
    ([0xDD, 0xCB, 0xFB, 0x0A], .rrcAtIXdR 0xFB .d),
    ([0xFD, 0xCB, 0xFB, 0x0E], .rrcAtIYd 0xFB),
    ([0xFD, 0xCB, 0xFB, 0x0A], .rrcAtIYdR 0xFB .d),
    ([0xCB, 0x12], .rlR .d),
    ([0xDD, 0xCB, 0xFB, 0x16], .rlAtIXd 0xFB),
    ([0xDD, 0xCB, 0xFB, 0x12], .rlAtIXdR 0xFB .d),
    ([0xFD, 0xCB, 0xFB, 0x16], .rlAtIYd 0xFB),
    ([0xFD, 0xCB, 0xFB, 0x12], .rlAtIYdR 0xFB .d),
    ([0xCB, 0x1A], .rrR .d),
    ([0xDD, 0xCB, 0xFB, 0x1E], .rrAtIXd 0xFB),
    ([0xDD, 0xCB, 0xFB, 0x1A], .rrAtIXdR 0xFB .d),
    ([0xFD, 0xCB, 0xFB, 0x1E], .rrAtIYd 0xFB),
    ([0xFD, 0xCB, 0xFB, 0x1A], .rrAtIYdR 0xFB .d),
    ([0xCB, 0x22], .slaR .d),
    ([0xDD, 0xCB, 0xFB, 0x26], .slaAtIXd 0xFB),
    ([0xDD, 0xCB, 0xFB, 0x22], .slaAtIXdR 0xFB .d),
    ([0xFD, 0xCB, 0xFB, 0x26], .slaAtIYd 0xFB),
    ([0xFD, 0xCB, 0xFB, 0x22], .slaAtIYdR 0xFB .d),
    ([0xCB, 0x2A], .sraR .d),
    ([0xDD, 0xCB, 0xFB, 0x2E], .sraAtIXd 0xFB),
    ([0xDD, 0xCB, 0xFB, 0x2A], .sraAtIXdR 0xFB .d),
    ([0xFD, 0xCB, 0xFB, 0x2E], .sraAtIYd 0xFB),
    ([0xFD, 0xCB, 0xFB, 0x2A], .sraAtIYdR 0xFB .d)] : List (List Byte × Instr)), decode p.1 = .instr p.2 := by decide

theorem test_decode_shift_2 : ∀ p ∈ ([
    ([0xCB, 0x32], .sliR .d),
    ([0xDD, 0xCB, 0xFB, 0x36], .sliAtIXd 0xFB),
    ([0xDD, 0xCB, 0xFB, 0x32], .sliAtIXdR 0xFB .d),
    ([0xFD, 0xCB, 0xFB, 0x36], .sliAtIYd 0xFB),
    ([0xFD, 0xCB, 0xFB, 0x32], .sliAtIYdR 0xFB .d),
    ([0xCB, 0x3A], .srlR .d),
    ([0xDD, 0xCB, 0xFB, 0x3E], .srlAtIXd 0xFB),
    ([0xDD, 0xCB, 0xFB, 0x3A], .srlAtIXdR 0xFB .d),
    ([0xFD, 0xCB, 0xFB, 0x3E], .srlAtIYd 0xFB),
    ([0xFD, 0xCB, 0xFB, 0x3A], .srlAtIYdR 0xFB .d),
    ([0x07], .rlca),
    ([0x17], .rla),
    ([0x0F], .rrca),
    ([0x1F], .rra),
    ([0xCB, 0x06], .rlcAtHL),
    ([0xCB, 0x0E], .rrcAtHL),
    ([0xCB, 0x16], .rlAtHL),
    ([0xCB, 0x1E], .rrAtHL),
    ([0xCB, 0x26], .slaAtHL),
    ([0xCB, 0x2E], .sraAtHL),
    ([0xCB, 0x36], .sliAtHL),
    ([0xCB, 0x3E], .srlAtHL)] : List (List Byte × Instr)), decode p.1 = .instr p.2 := by decide

theorem test_decode_bit_1 : ∀ p ∈ ([
    ([0xCB, 0x6A], .bitBR 5 .d),
    ([0xCB, 0x6E], .bitBAtHL 5),
    ([0xCB, 0xAA], .resBR 5 .d),
    ([0xCB, 0xAE], .resBAtHL 5),
    ([0xCB, 0xEA], .setBR 5 .d),
    ([0xCB, 0xEE], .setBAtHL 5),
    ([0xDD, 0xCB, 0xFB, 0x6E], .bitBAtIXd 5 0xFB),
    ([0xDD, 0xCB, 0xFB, 0xAE], .resBAtIXd 5 0xFB),
    ([0xDD, 0xCB, 0xFB, 0xEE], .setBAtIXd 5 0xFB),
    ([0xDD, 0xCB, 0xFB, 0xAA], .resBAtIXdR 5 0xFB .d),
    ([0xDD, 0xCB, 0xFB, 0xEA], .setBAtIXdR 5 0xFB .d),
    ([0xFD, 0xCB, 0xFB, 0x6E], .bitBAtIYd 5 0xFB),
    ([0xFD, 0xCB, 0xFB, 0xAE], .resBAtIYd 5 0xFB),
    ([0xFD, 0xCB, 0xFB, 0xEE], .setBAtIYd 5 0xFB),
    ([0xFD, 0xCB, 0xFB, 0xAA], .resBAtIYdR 5 0xFB .d),
    ([0xFD, 0xCB, 0xFB, 0xEA], .setBAtIYdR 5 0xFB .d),
    ([0xED, 0x6F], .rld),
    ([0xED, 0x67], .rrd),
    ([0xED, 0x28], .bslaDEB),
    ([0xED, 0x29], .bsraDEB),
    ([0xED, 0x2A], .bsrlDEB),
    ([0xED, 0x2B], .bsrfDEB),
    ([0xED, 0x2C], .brlcDEB),
    ([0xED, 0x24], .mirrorA),
    ([0xED, 0x23], .swapnib),
    ([0xED, 0x95], .setae)] : List (List Byte × Instr)), decode p.1 = .instr p.2 := by decide

theorem test_decode_control_1 : ∀ p ∈ ([
    ([0xC3, 0x34, 0x12], .jpNN 0x1234),
    ([0xD2, 0x34, 0x12], .jpCondNN .nc 0x1234),
    ([0x18, 0xFB], .jrE 0xFB),
    ([0x30, 0xFB], .jrCondE .nc 0xFB),
    ([0x10, 0xFB], .djnzE 0xFB),
    ([0xCD, 0x34, 0x12], .callNN 0x1234),
    ([0xD4, 0x34, 0x12], .callCondNN .nc 0x1234),
    ([0xD0], .retCond .nc),
    ([0xDF], .rstN 3),
    ([0xE9], .jpAtHL),
    ([0xDD, 0xE9], .jpAtIX),
    ([0xFD, 0xE9], .jpAtIY),
    ([0xED, 0x98], .jpAtC),
    ([0xC9], .ret)] : List (List Byte × Instr)), decode p.1 = .instr p.2 := by decide

theorem test_decode_io_1 : ∀ p ∈ ([
    ([0xDB, 0xA5], .inAAtN 0xA5),
    ([0xED, 0x58], .inRAtC .e),
    ([0xD3, 0xA5], .outAtNA 0xA5),
    ([0xED, 0x59], .outAtCR .e),
    ([0xED, 0x91, 0x56, 0xA5], .nextregNN 0x56 0xA5),
    ([0xED, 0x92, 0x56], .nextregNA 0x56),
    ([0xED, 0x70], .inAtC),
    ([0xED, 0x71], .outAtCZero),
    ([0xED, 0xA2], .ini),
    ([0xED, 0xB2], .inir),
    ([0xED, 0xAA], .ind),
    ([0xED, 0xBA], .indr),
    ([0xED, 0xA3], .outi),
    ([0xED, 0xB3], .otir),
    ([0xED, 0xAB], .outd),
    ([0xED, 0xBB], .otdr),
    ([0xED, 0x90], .outinb)] : List (List Byte × Instr)), decode p.1 = .instr p.2 := by decide

theorem test_decode_block_1 : ∀ p ∈ ([
    ([0xED, 0xA0], .ldi),
    ([0xED, 0xB0], .ldir),
    ([0xED, 0xA8], .ldd),
    ([0xED, 0xB8], .lddr),
    ([0xED, 0xA1], .cpi),
    ([0xED, 0xB1], .cpir),
    ([0xED, 0xA9], .cpd),
    ([0xED, 0xB9], .cpdr),
    ([0xED, 0xA4], .ldix),
    ([0xED, 0xB4], .ldirx),
    ([0xED, 0xAC], .lddx),
    ([0xED, 0xBC], .lddrx),
    ([0xED, 0xB7], .ldpirx),
    ([0xED, 0xA5], .ldws)] : List (List Byte × Instr)), decode p.1 = .instr p.2 := by decide

theorem test_decode_system_1 : ∀ p ∈ ([
    ([0x00], .nop),
    ([0x76], .halt),
    ([0xF3], .di),
    ([0xFB], .ei),
    ([0xED, 0x46], .im0),
    ([0xED, 0x56], .im1),
    ([0xED, 0x5E], .im2),
    ([0xED, 0x4D], .reti),
    ([0xED, 0x45], .retn)] : List (List Byte × Instr)), decode p.1 = .instr p.2 := by decide

theorem test_decode_pixel_1 : ∀ p ∈ ([
    ([0xED, 0x94], .pixelad),
    ([0xED, 0x93], .pixeldn)] : List (List Byte × Instr)), decode p.1 = .instr p.2 := by decide

/-- Reserved sequences (V30). -/
theorem test_decode_reserved : ∀ p ∈ ([[0xED, 0x00, 0, 0], [0xED, 0x26, 0, 0], [0xED, 0x4C, 0, 0],
    [0xED, 0x6B, 0x00, 0x90], [0xED, 0x77, 0, 0], [0xDD, 0x00, 0, 0], [0xDD, 0xDD, 0x21, 0x00], [0xDD, 0xEB, 0, 0],
    [0xFD, 0x76, 0, 0], [0xFD, 0xCB, 0x00, 0x40]] : List (List Byte)),
    (match decode p with | .rejected _ => true | .instr _ => false) = true := by decide

/-- Words numbered as the table numbers them, both ways round (log 15). -/
theorem test_table_words : decodeTableWord 16 0xED44 = some .neg ∧ decodeTableWord 16 0x44ED = some .neg ∧
    decodeTableWord 32 0xED8A1234 = some (.pushNN 0x1234) ∧ decodeTableWord 8 0x76 = some .halt ∧
    decodeTableWord 16 0xED00 = none := by decide

/-! ## One step each, from 95_test_vectors.md -/

/-- The default start state of the vectors. -/
def start : State := { State.reset with pc := 0x8000, sp := 0xFF00 }

/-- The bytes at `PC` run in one step to a state with `p`. -/
def runs (bytes : List Byte) (s : State) (p : State → Bool) : Bool :=
  match step (s.loaded bytes) with
  | .next t => p t
  | .fault _ => false
  | .refused _ => false

theorem test_v40_3_ld_e_hl :
    runs [0x5E] { start with h := 0x90, l := 0x00, mem := [(0x9000, 0xA5)] }
      (fun t => t.e == 0xA5 && t.pc == 0x8001) = true := by decide

theorem test_v40_5_ld_h_iy_127 :
    runs [0xFD, 0x66, 0x7F] { start with iy := 0x9000, h := 0x12, l := 0x34, mem := [(0x907F, 0x99)] }
      (fun t => t.h == 0x99 && t.pc == 0x8003) = true := by decide

theorem test_v40_7_ld_ix_128_a :
    runs [0xDD, 0x77, 0x80] { start with ix := 0x9080, a := 0xEE }
      (fun t => t.pc == 0x8003 && t.read 0x9000 == 0xEE) = true := by decide

theorem test_v40_10_ld_ix_d_wraps :
    runs [0xDD, 0x70, 0x7F] { start with ix := 0xFFFF, b := 0x5B }
      (fun t => t.pc == 0x8003 && t.read 0x007E == 0x5B) = true := by decide

theorem test_v40_12_ld_a_de :
    runs [0x1A] { start with d := 0x90, e := 0x01, mem := [(0x9001, 0x22)] }
      (fun t => t.a == 0x22 && t.pc == 0x8001) = true := by decide

theorem test_v40_14_ld_bc_a :
    runs [0x02] { start with b := 0x90, c := 0x00, a := 0x44 }
      (fun t => t.pc == 0x8001 && t.read 0x9000 == 0x44) = true := by decide

theorem test_v40_17_ld_a_i_i_80_iff2_1 :
    runs [0xED, 0x57] { start with i := 0x80, iff2 := true, f := Flags.ofByte 0x13 }
      (fun t => t.a == 0x80 && t.pc == 0x8002 && t.f.sf && !t.f.zf && !t.f.hf && t.f.pv && !t.f.nf && t.f.cf)
        = true := by decide

theorem test_v40_21_ld_ixh_n :
    runs [0xDD, 0x26, 0x12] { start with ix := 0xAAAA }
      (fun t => t.ix == join 0x12 (lo t.ix) && t.pc == 0x8003) = true := by decide

theorem test_v40_22_ld_a_ixl :
    runs [0xDD, 0x7D] { start with ix := 0x1234 }
      (fun t => t.a == 0x34 && t.pc == 0x8002) = true := by decide

theorem test_v40_24_ld_ixh_e :
    runs [0xDD, 0x63] { start with e := 0x77, ix := 0x0011 }
      (fun t => t.ix == join 0x77 (lo t.ix) && t.pc == 0x8002) = true := by decide

theorem test_v40_26_ld_bc_nn :
    runs [0x01, 0x34, 0x12] start
      (fun t => t.b == 0x12 && t.c == 0x34 && t.pc == 0x8003) = true := by decide

theorem test_v40_29_ld_hl_nn :
    runs [0x2A, 0x00, 0x90] { start with mem := [(0x9000, 0x34), (0x9001, 0x12)] }
      (fun t => t.h == 0x12 && t.l == 0x34 && t.pc == 0x8003) = true := by decide

theorem test_v40_31_ld_sp_nn :
    runs [0xED, 0x7B, 0x00, 0x90] { start with mem := [(0x9001, 0xC0)] }
      (fun t => t.sp == 0xC000 && t.pc == 0x8004) = true := by decide

theorem test_v40_33_ld_nn_hl :
    runs [0x22, 0x00, 0x90] { start with h := 0x12, l := 0x34 }
      (fun t => t.pc == 0x8003 && t.read 0x9000 == 0x34 && t.read 0x9001 == 0x12) = true := by decide

theorem test_v40_37_ld_nn_hl_wraps :
    runs [0x22, 0xFF, 0xFF] { start with h := 0x12, l := 0x34 }
      (fun t => t.pc == 0x8003 && t.read 0x0000 == 0x12 && t.read 0xFFFF == 0x34) = true := by decide

theorem test_v40_39_ld_sp_iy :
    runs [0xFD, 0xF9] { start with iy := 0xBFFE }
      (fun t => t.sp == 0xBFFE && t.pc == 0x8002) = true := by decide

theorem test_v40_41_push_af :
    runs [0xF5] { start with a := 0x12, f := Flags.ofByte 0xD7 }
      (fun t => t.sp == 0xFEFE && t.pc == 0x8001 && t.read 0xFEFE == 0xD7 && t.read 0xFEFF == 0x12 && t.f ==
        Flags.ofByte 0xD7) = true := by decide

theorem test_v40_43_push_nn_1234 :
    runs [0xED, 0x8A, 0x12, 0x34] start
      (fun t => t.sp == 0xFEFE && t.pc == 0x8004 && t.read 0xFEFE == 0x34 && t.read 0xFEFF == 0x12) = true :=
        by decide

theorem test_v40_44_push_wraps :
    runs [0xD5] { start with sp := 0x0001, d := 0xA1, e := 0xB2 }
      (fun t => t.sp == 0xFFFF && t.pc == 0x8001 && t.read 0x0000 == 0xA1 && t.read 0xFFFF == 0xB2) = true :=
        by decide

theorem test_v40_46_pop_af :
    runs [0xF1] { start with mem := [(0xFF00, 0xFF), (0xFF01, 0x12)] }
      (fun t => t.a == 0x12 && t.sp == 0xFF02 && t.pc == 0x8001 && t.f.sf && t.f.zf && t.f.f5 && t.f.hf &&
        t.f.f3 && t.f.pv && t.f.nf && t.f.cf) = true := by decide

theorem test_v40_48_pop_wraps :
    runs [0xE1] { start with sp := 0xFFFF, mem := [(0x0000, 0xAB), (0xFFFF, 0xCD)] }
      (fun t => t.h == 0xAB && t.l == 0xCD && t.sp == 0x0001 && t.pc == 0x8001) = true := by decide

theorem test_v40_50_ex_af_af :
    runs [0x08] { start with a := 0x12, f := Flags.ofByte 0x34, a' := 0x56, f' := Flags.ofByte 0x78 }
      (fun t => t.a == 0x56 && t.a' == 0x12 && t.f' == Flags.ofByte 0x34 && t.pc == 0x8001 && !t.f.sf &&
        t.f.zf && t.f.f5 && t.f.hf && t.f.f3 && !t.f.pv && !t.f.nf && !t.f.cf) = true := by decide

theorem test_v40_51_exx :
    runs [0xD9] { start with b := 0x01, c := 0x01, d := 0x02, e := 0x02, h := 0x03, l := 0x03, b' := 0x11, c' := 0x11, d' := 0x22, e' := 0x22, h' := 0x33, l' := 0x33, a := 0x99 }
      (fun t => t.b == 0x11 && t.c == 0x11 && t.d == 0x22 && t.e == 0x22 && t.h == 0x33 && t.l == 0x33 && t.b'
        == 0x01 && t.c' == 0x01 && t.d' == 0x02 && t.e' == 0x02 && t.h' == 0x03 && t.l' == 0x03 && t.pc ==
        0x8001) = true := by decide

theorem test_v40_52_ex_sp_hl :
    runs [0xE3] { start with h := 0xAB, l := 0xCD, mem := [(0xFF00, 0x34), (0xFF01, 0x12)] }
      (fun t => t.h == 0x12 && t.l == 0x34 && t.pc == 0x8001 && t.read 0xFF00 == 0xCD && t.read 0xFF01 ==
        0xAB) = true := by decide

theorem test_v41_2_add_a_n_overflow :
    runs [0xC6, 0x01] { start with a := 0x7F }
      (fun t => t.a == 0x80 && t.pc == 0x8002 && t.f.sf && !t.f.zf && t.f.hf && t.f.pv && !t.f.nf && !t.f.cf)
        = true := by decide

theorem test_v41_5_add_a_ixh :
    runs [0xDD, 0x84] { start with a := 0x01, ix := 0x8000 }
      (fun t => t.a == 0x81 && t.pc == 0x8002 && t.f.sf && !t.f.zf && !t.f.hf && !t.f.pv && !t.f.nf &&
        !t.f.cf) = true := by decide

theorem test_v41_8_adc_a_n_overflow_by_carry :
    runs [0xCE, 0x00] { start with a := 0x7F, f := Flags.ofByte 0x01 }
      (fun t => t.a == 0x80 && t.pc == 0x8002 && t.f.sf && !t.f.zf && t.f.hf && t.f.pv && !t.f.nf && !t.f.cf)
        = true := by decide

theorem test_v41_11_sub_n_overflow :
    runs [0xD6, 0x01] { start with a := 0x80 }
      (fun t => t.a == 0x7F && t.pc == 0x8002 && !t.f.sf && !t.f.zf && t.f.hf && t.f.pv && t.f.nf && !t.f.cf)
        = true := by decide

theorem test_v41_14_sbc_a_n_borrow_in :
    runs [0xDE, 0xFF] { start with a := 0x00, f := Flags.ofByte 0x01 }
      (fun t => t.pc == 0x8002 && !t.f.sf && t.f.zf && t.f.hf && !t.f.pv && t.f.nf && t.f.cf) = true := by
        decide

theorem test_v41_16_sbc_a_iyl :
    runs [0xFD, 0x9D] { start with a := 0x80, iy := 0x0001, f := Flags.ofByte 0x00 }
      (fun t => t.a == 0x7F && t.pc == 0x8002 && !t.f.sf && !t.f.zf && t.f.hf && t.f.pv && t.f.nf && !t.f.cf)
        = true := by decide

theorem test_v41_19_and_ix_d :
    runs [0xDD, 0xA6, 0x00] { start with a := 0x3C, ix := 0x9000, mem := [(0x9000, 0x0F)] }
      (fun t => t.a == 0x0C && t.pc == 0x8003 && !t.f.sf && !t.f.zf && t.f.hf && t.f.pv && !t.f.nf && !t.f.cf)
        = true := by decide

theorem test_v41_22_xor_ixl :
    runs [0xDD, 0xAD] { start with a := 0x01, ix := 0x0080 }
      (fun t => t.a == 0x81 && t.pc == 0x8002 && t.f.sf && !t.f.zf && !t.f.hf && t.f.pv && !t.f.nf && !t.f.cf)
        = true := by decide

theorem test_v41_25_or_n :
    runs [0xF6, 0x80] { start with a := 0x01 }
      (fun t => t.a == 0x81 && t.pc == 0x8002 && t.f.sf && !t.f.zf && !t.f.hf && t.f.pv && !t.f.nf && !t.f.cf)
        = true := by decide

theorem test_v41_28_cp_n_overflow :
    runs [0xFE, 0x01] { start with a := 0x80 }
      (fun t => t.pc == 0x8002 && !t.f.sf && !t.f.zf && t.f.hf && t.f.pv && t.f.nf && !t.f.cf) = true := by
        decide

theorem test_v41_31_inc_a_7f :
    runs [0x3C] { start with a := 0x7F, f := Flags.ofByte 0x01 }
      (fun t => t.a == 0x80 && t.pc == 0x8001 && t.f.sf && !t.f.zf && t.f.hf && t.f.pv && !t.f.nf && t.f.cf) =
        true := by decide

theorem test_v41_35_inc_ixl :
    runs [0xDD, 0x2C] { start with ix := 0x12FF }
      (fun t => t.ix == join (hi t.ix) 0x00 && t.pc == 0x8002 && !t.f.sf && t.f.zf && t.f.hf && !t.f.pv &&
        !t.f.nf && !t.f.cf) = true := by decide

theorem test_v41_36_dec_b_80 :
    runs [0x05] { start with b := 0x80 }
      (fun t => t.b == 0x7F && t.pc == 0x8001 && !t.f.sf && !t.f.zf && t.f.hf && t.f.pv && t.f.nf && !t.f.cf)
        = true := by decide

theorem test_v41_40_dec_iy_d :
    runs [0xFD, 0x35, 0x01] { start with iy := 0x9000, mem := [(0x9001, 0x01)] }
      (fun t => t.pc == 0x8003 && t.read 0x9001 == 0x00 && !t.f.sf && t.f.zf && !t.f.hf && !t.f.pv && t.f.nf
        && !t.f.cf) = true := by decide

theorem test_v41_42_daa_after_add_15_27 :
    runs [0x27] { start with a := 0x3C }
      (fun t => t.a == 0x42 && t.pc == 0x8001 && !t.f.sf && !t.f.zf && t.f.hf && t.f.pv && !t.f.nf && !t.f.cf)
        = true := by decide

theorem test_v41_43_daa_9a :
    runs [0x27] { start with a := 0x9A }
      (fun t => t.a == 0x00 && t.pc == 0x8001 && !t.f.sf && t.f.zf && t.f.hf && t.f.pv && !t.f.nf && t.f.cf) =
        true := by decide

theorem test_v41_45_daa_after_sub_15_06 :
    runs [0x27] { start with a := 0x0F, f := Flags.ofByte 0x12 }
      (fun t => t.a == 0x09 && t.pc == 0x8001 && !t.f.sf && !t.f.zf && !t.f.hf && t.f.pv && t.f.nf && !t.f.cf)
        = true := by decide

theorem test_v41_48_cpl :
    runs [0x2F] { start with a := 0x55, f := Flags.ofByte 0xC5 }
      (fun t => t.a == 0xAA && t.pc == 0x8001 && t.f.sf && t.f.zf && t.f.hf && t.f.pv && t.f.nf && t.f.cf) =
        true := by decide

theorem test_v41_50_neg_80 :
    runs [0xED, 0x44] { start with a := 0x80 }
      (fun t => t.pc == 0x8002 && t.f.sf && !t.f.zf && !t.f.hf && t.f.nf && t.f.cf) = true := by decide

theorem test_v41_53_ccf_carry_clear :
    runs [0x3F] { start with f := Flags.ofByte 0x02 }
      (fun t => t.pc == 0x8001 && !t.f.sf && !t.f.zf && !t.f.pv && !t.f.nf && t.f.cf) = true := by decide

theorem test_v41_54_scf :
    runs [0x37] { start with f := Flags.ofByte 0xD6 }
      (fun t => t.pc == 0x8001 && t.f.sf && t.f.zf && !t.f.hf && t.f.pv && !t.f.nf && t.f.cf) = true := by
        decide

theorem test_v41_55_test_n_zero :
    runs [0xED, 0x27, 0x0F] { start with a := 0xF0, f := Flags.ofByte 0x01 }
      (fun t => t.pc == 0x8003 && !t.f.sf && t.f.zf && t.f.hf && t.f.pv && !t.f.nf && !t.f.cf) = true := by
        decide

theorem test_v42_2_add_hl_hl_carry :
    runs [0x29] { start with h := 0x80, l := 0x00, f := Flags.ofByte 0xC6 }
      (fun t => t.h == 0x00 && t.l == 0x00 && t.pc == 0x8001 && t.f.sf && t.f.zf && !t.f.hf && t.f.pv &&
        !t.f.nf && t.f.cf) = true := by decide

theorem test_v42_6_add_ix_ix :
    runs [0xDD, 0x29] { start with ix := 0x4000 }
      (fun t => t.ix == 0x8000 && t.pc == 0x8002 && !t.f.sf && !t.f.zf && !t.f.hf && !t.f.pv && !t.f.nf &&
        !t.f.cf) = true := by decide

theorem test_v42_9_adc_hl_de_overflow :
    runs [0xED, 0x5A] { start with h := 0x7F, l := 0xFF, d := 0x00, e := 0x00, f := Flags.ofByte 0x01 }
      (fun t => t.h == 0x80 && t.l == 0x00 && t.pc == 0x8002 && t.f.sf && !t.f.zf && t.f.hf && t.f.pv &&
        !t.f.nf && !t.f.cf) = true := by decide

theorem test_v42_14_sbc_hl_hl_with_carry :
    runs [0xED, 0x62] { start with h := 0x12, l := 0x34, f := Flags.ofByte 0x01 }
      (fun t => t.h == 0xFF && t.l == 0xFF && t.pc == 0x8002 && t.f.sf && !t.f.zf && t.f.hf && !t.f.pv &&
        t.f.nf && t.f.cf) = true := by decide

theorem test_v42_15_sbc_hl_de_overflow :
    runs [0xED, 0x52] { start with h := 0x80, l := 0x00, d := 0x00, e := 0x01 }
      (fun t => t.h == 0x7F && t.l == 0xFF && t.pc == 0x8002 && !t.f.sf && !t.f.zf && t.f.hf && t.f.pv &&
        t.f.nf && !t.f.cf) = true := by decide

theorem test_v42_18_inc_bc_wraps :
    runs [0x03] { start with b := 0xFF, c := 0xFF, f := Flags.ofByte 0xFF }
      (fun t => t.b == 0x00 && t.c == 0x00 && t.pc == 0x8001 && t.f == Flags.ofByte 0xFF) = true := by decide

theorem test_v42_21_dec_sp_wraps :
    runs [0x3B] { start with sp := 0x0000 }
      (fun t => t.sp == 0xFFFF && t.pc == 0x8001) = true := by decide

theorem test_v42_24_add_hl_a_wraps :
    runs [0xED, 0x31] { start with h := 0xFF, l := 0xFF, a := 0x01, f := Flags.ofByte 0xD6 }
      (fun t => t.h == 0x00 && t.l == 0x00 && t.pc == 0x8002 && t.f.sf && t.f.zf && t.f.hf && t.f.pv && t.f.nf) = true := by
  decide

/-- The same vector's bits 5 and 3, which it gives as R558 does (log 17). -/
theorem test_v42_24_add_hl_a_keeps_bits_5_and_3 :
    runs [0xED, 0x31]
      { start with h := 0xFF, l := 0xFF, a := 0x01, f := Flags.ofByte 0xD6,
                   cfg := { Platform.default with addAKeepsUnnamed := true } }
      (fun t => !t.f.f5 && !t.f.f3) = true := by decide

theorem test_v42_29_add_bc_nn :
    runs [0xED, 0x36, 0x00, 0x80] { start with b := 0x80, c := 0x00 }
      (fun t => t.b == 0x00 && t.c == 0x00 && t.pc == 0x8004) = true := by decide

theorem test_v42_30_mul_d_e_max :
    runs [0xED, 0x30] { start with d := 0xFF, e := 0xFF, f := Flags.ofByte 0xFF }
      (fun t => t.d == 0xFE && t.e == 0x01 && t.pc == 0x8002 && t.f == Flags.ofByte 0xFF) = true := by decide

theorem test_v43_1_rlca :
    runs [0x07] { start with a := 0x81, f := Flags.ofByte 0xC4 }
      (fun t => t.a == 0x03 && t.pc == 0x8001 && t.f.sf && t.f.zf && !t.f.hf && t.f.pv && !t.f.nf && t.f.cf) =
        true := by decide

theorem test_v43_3_rla_carry_in :
    runs [0x17] { start with a := 0x00, f := Flags.ofByte 0x41 }
      (fun t => t.a == 0x01 && t.pc == 0x8001 && !t.f.sf && t.f.zf && !t.f.hf && !t.f.pv && !t.f.nf &&
        !t.f.cf) = true := by decide

theorem test_v43_4_rrca :
    runs [0x0F] { start with a := 0x01 }
      (fun t => t.a == 0x80 && t.pc == 0x8001 && !t.f.sf && !t.f.zf && !t.f.hf && !t.f.pv && !t.f.nf &&
        t.f.cf) = true := by decide

theorem test_v43_5_rra :
    runs [0x1F] { start with a := 0x01, f := Flags.ofByte 0x01 }
      (fun t => t.a == 0x80 && t.pc == 0x8001 && !t.f.sf && !t.f.zf && !t.f.hf && !t.f.pv && !t.f.nf &&
        t.f.cf) = true := by decide

theorem test_v43_8_rlc_ix_1 :
    runs [0xDD, 0xCB, 0x01, 0x06] { start with ix := 0x9000, mem := [(0x9001, 0x81)] }
      (fun t => t.pc == 0x8004 && t.read 0x9001 == 0x03 && !t.f.sf && !t.f.zf && !t.f.hf && t.f.pv && !t.f.nf
        && t.f.cf) = true := by decide

theorem test_v43_9_rlc_ix_1_b :
    runs [0xDD, 0xCB, 0x01, 0x00] { start with ix := 0x9000, b := 0xEE, mem := [(0x9001, 0x40)] }
      (fun t => t.b == 0x80 && t.pc == 0x8004 && t.read 0x9001 == 0x80 && t.f.sf && !t.f.zf && !t.f.hf &&
        !t.f.pv && !t.f.nf && !t.f.cf) = true := by decide

theorem test_v43_11_rrc_iy_d :
    runs [0xFD, 0xCB, 0xFF, 0x0E] { start with iy := 0x9001, mem := [(0x9000, 0x02)] }
      (fun t => t.pc == 0x8004 && t.read 0x9000 == 0x01 && !t.f.sf && !t.f.zf && !t.f.hf && !t.f.pv && !t.f.nf
        && !t.f.cf) = true := by decide

theorem test_v43_13_rl_hl :
    runs [0xCB, 0x16] { start with h := 0x90, l := 0x00, mem := [(0x9000, 0x80)] }
      (fun t => t.pc == 0x8002 && t.read 0x9000 == 0x00 && !t.f.sf && t.f.zf && !t.f.hf && t.f.pv && !t.f.nf
        && t.f.cf) = true := by decide

theorem test_v43_15_rr_ix_d_a :
    runs [0xDD, 0xCB, 0x00, 0x1F] { start with ix := 0x9000, f := Flags.ofByte 0x01, mem := [(0x9000, 0x02)] }
      (fun t => t.a == 0x81 && t.pc == 0x8004 && t.read 0x9000 == 0x81 && t.f.sf && !t.f.zf && !t.f.hf &&
        t.f.pv && !t.f.nf && !t.f.cf) = true := by decide

theorem test_v43_17_sla_hl :
    runs [0xCB, 0x26] { start with h := 0x90, l := 0x00, mem := [(0x9000, 0x7F)] }
      (fun t => t.pc == 0x8002 && t.read 0x9000 == 0xFE && t.f.sf && !t.f.zf && !t.f.hf && !t.f.pv && !t.f.nf
        && !t.f.cf) = true := by decide

theorem test_v43_19_sra_iy_d :
    runs [0xFD, 0xCB, 0x00, 0x2E] { start with iy := 0x9000, mem := [(0x9000, 0x80)] }
      (fun t => t.pc == 0x8004 && t.read 0x9000 == 0xC0 && t.f.sf && !t.f.zf && !t.f.hf && t.f.pv && !t.f.nf
        && !t.f.cf) = true := by decide

theorem test_v43_21_sli_hl :
    runs [0xCB, 0x36] { start with h := 0x90, l := 0x00, mem := [] }
      (fun t => t.pc == 0x8002 && t.read 0x9000 == 0x01 && !t.f.sf && !t.f.zf && !t.f.hf && !t.f.pv && !t.f.nf
        && !t.f.cf) = true := by decide

theorem test_v43_24_srl_ix_d_l :
    runs [0xDD, 0xCB, 0x02, 0x3D] { start with ix := 0x9000, h := 0x12, l := 0x34, mem := [(0x9002, 0x81)] }
      (fun t => t.l == 0x40 && t.pc == 0x8004 && t.read 0x9002 == 0x40 && !t.f.sf && !t.f.zf && !t.f.hf &&
        !t.f.pv && !t.f.nf && t.f.cf) = true := by decide

theorem test_v43_25_rld :
    runs [0xED, 0x6F] { start with a := 0x12, h := 0x90, l := 0x00, f := Flags.ofByte 0x01, mem := [(0x9000, 0x34)] }
      (fun t => t.a == 0x13 && t.pc == 0x8002 && t.read 0x9000 == 0x42 && !t.f.sf && !t.f.zf && !t.f.hf &&
        !t.f.pv && !t.f.nf && t.f.cf) = true := by decide

theorem test_v43_26_rrd :
    runs [0xED, 0x67] { start with a := 0x12, h := 0x90, l := 0x00, f := Flags.ofByte 0x01, mem := [(0x9000, 0x34)] }
      (fun t => t.a == 0x14 && t.pc == 0x8002 && t.read 0x9000 == 0x23 && !t.f.sf && !t.f.zf && !t.f.hf &&
        t.f.pv && !t.f.nf && t.f.cf) = true := by decide

theorem test_v43_28_bit_7_a_set :
    runs [0xCB, 0x7F] { start with a := 0x80, f := Flags.ofByte 0x01 }
      (fun t => t.pc == 0x8002 && !t.f.zf && t.f.hf && !t.f.nf && t.f.cf) = true := by decide

theorem test_v43_30_bit_3_iy_5 :
    runs [0xFD, 0xCB, 0x05, 0x5E] { start with iy := 0x9000, mem := [(0x9005, 0x08)] }
      (fun t => t.pc == 0x8004 && !t.f.zf && t.f.hf && !t.f.nf && !t.f.cf) = true := by decide

theorem test_v43_35_set_1_ix_0_c :
    runs [0xDD, 0xCB, 0x00, 0xC9] { start with ix := 0x9000, c := 0x55, mem := [(0x9000, 0x80)] }
      (fun t => t.c == 0x82 && t.pc == 0x8004 && t.read 0x9000 == 0x82) = true := by decide

theorem test_v43_38_res_2_iy_0_d :
    runs [0xFD, 0xCB, 0x00, 0x92] { start with iy := 0x9000, mem := [(0x9000, 0xFF)] }
      (fun t => t.d == 0xFB && t.pc == 0x8004 && t.read 0x9000 == 0xFB) = true := by decide

theorem test_v43_42_bsla_de_b_b_ff_count_31 :
    runs [0xED, 0x28] { start with d := 0xFF, e := 0xFF, b := 0xFF }
      (fun t => t.d == 0x00 && t.e == 0x00 && t.pc == 0x8002) = true := by decide

theorem test_v43_44_bsra_de_b_by_31 :
    runs [0xED, 0x29] { start with d := 0x80, e := 0x00, b := 0x1F }
      (fun t => t.d == 0xFF && t.e == 0xFF && t.pc == 0x8002) = true := by decide

theorem test_v43_48_bsrf_de_b_by_4 :
    runs [0xED, 0x2B] { start with d := 0x00, e := 0x00, b := 0x04 }
      (fun t => t.d == 0xF0 && t.pc == 0x8002) = true := by decide

theorem test_v43_52_brlc_de_b_b_10_count_0 :
    runs [0xED, 0x2C] { start with d := 0x80, e := 0x01, b := 0x10 }
      (fun t => t.pc == 0x8002) = true := by decide

theorem test_v43_53_brlc_de_b_by_15_right_by_1 :
    runs [0xED, 0x2C] { start with d := 0x00, e := 0x01, b := 0x0F }
      (fun t => t.d == 0x80 && t.e == 0x00 && t.pc == 0x8002) = true := by decide

theorem test_v43_55_mirror_b4 :
    runs [0xED, 0x24] { start with a := 0xB4 }
      (fun t => t.a == 0x2D && t.pc == 0x8002) = true := by decide

theorem test_v43_56_swapnib :
    runs [0xED, 0x23] { start with a := 0xA5, f := Flags.ofByte 0xFF }
      (fun t => t.a == 0x5A && t.pc == 0x8002 && t.f == Flags.ofByte 0xFF) = true := by decide

theorem test_v43_59_setae_e_0b :
    runs [0xED, 0x95] { start with e := 0x0B, f := Flags.ofByte 0xFF }
      (fun t => t.a == 0x10 && t.pc == 0x8002 && t.f == Flags.ofByte 0xFF) = true := by decide

theorem test_v44_3_jp_z_not_taken :
    runs [0xCA, 0x00, 0x90] { start with f := Flags.ofByte 0x00 }
      (fun t => t.pc == 0x8003 && t.f == Flags.ofByte 0x00) = true := by decide

theorem test_v44_7_jp_m_taken :
    runs [0xFA, 0x00, 0x90] { start with f := Flags.ofByte 0x80 }
      (fun t => t.pc == 0x9000 && t.f == Flags.ofByte 0x80) = true := by decide

theorem test_v44_13_jp_c_at_end_of_16k_block :
    runs [0xED, 0x98] { start with pc := 0xBFFE, portIn := [0xFF] }
      (fun t => t.pc == 0xFFC0 && t.events == [.portRead 0x0000 0xFF]) = true := by decide

theorem test_v44_16_jr_126 :
    runs [0x18, 0x80] start
      (fun t => t.pc == 0x7F82) = true := by decide

theorem test_v44_17_jr_129 :
    runs [0x18, 0x7F] start
      (fun t => t.pc == 0x8081) = true := by decide

theorem test_v44_25_djnz_b_0_wraps_to_ff :
    runs [0x10, 0x10] { start with b := 0x00 }
      (fun t => t.b == 0xFF && t.c == 0x00 && t.pc == 0x8012) = true := by decide

theorem test_v44_27_call_nz_taken :
    runs [0xC4, 0x00, 0x90] { start with f := Flags.ofByte 0x00 }
      (fun t => t.sp == 0xFEFE && t.pc == 0x9000 && t.read 0xFEFE == 0x03 && t.read 0xFEFF == 0x80 && t.f ==
        Flags.ofByte 0x00) = true := by decide

theorem test_v44_28_call_z_not_taken :
    runs [0xCC, 0x00, 0x90] { start with f := Flags.ofByte 0x00 }
      (fun t => t.pc == 0x8003 && t.f == Flags.ofByte 0x00) = true := by decide

theorem test_v44_31_ret_c_taken :
    runs [0xD8] { start with f := Flags.ofByte 0x01, mem := [(0xFF00, 0x34), (0xFF01, 0x12)] }
      (fun t => t.sp == 0xFF02 && t.pc == 0x1234 && t.f == Flags.ofByte 0x01) = true := by decide

theorem test_v44_34_rst_28 :
    runs [0xEF] start
      (fun t => t.sp == 0xFEFE && t.pc == 0x0028 && t.read 0xFEFE == 0x01 && t.read 0xFEFF == 0x80) = true :=
        by decide

theorem test_v44_37_call_at_top_of_memory :
    runs [0xCD, 0x00, 0x90] { start with pc := 0xFFFE, mem := [(0x0000, 0x90)] }
      (fun t => t.sp == 0xFEFE && t.pc == 0x9000 && t.read 0xFEFE == 0x01) = true := by decide

theorem test_v45_1_ldi :
    runs [0xED, 0xA0] { start with h := 0x90, l := 0x00, d := 0xA0, e := 0x00, b := 0x00, c := 0x02, f := Flags.ofByte 0xFF, mem := [(0x9000, 0xAA)] }
      (fun t => t.b == 0x00 && t.c == 0x01 && t.d == 0xA0 && t.e == 0x01 && t.h == 0x90 && t.l == 0x01 && t.pc
        == 0x8002 && t.read 0xA000 == 0xAA && t.f.sf && t.f.zf && !t.f.hf && t.f.pv && !t.f.nf && t.f.cf) =
        true := by decide

theorem test_v45_3_ldd :
    runs [0xED, 0xA8] { start with h := 0x90, l := 0x00, d := 0xA0, e := 0x00, b := 0x00, c := 0x02, mem := [(0x9000, 0xBB)] }
      (fun t => t.b == 0x00 && t.c == 0x01 && t.d == 0x9F && t.e == 0xFF && t.h == 0x8F && t.l == 0xFF && t.pc
        == 0x8002 && t.read 0xA000 == 0xBB && !t.f.sf && !t.f.zf && !t.f.hf && t.f.pv && !t.f.nf && !t.f.cf) =
        true := by decide

theorem test_v45_4_ldir_one_pass_of_three :
    runs [0xED, 0xB0] { start with h := 0x90, l := 0x00, d := 0xA0, e := 0x00, b := 0x00, c := 0x03, mem := [(0x9000, 0x01), (0x9001, 0x02), (0x9002, 0x03)] }
      (fun t => t.b == 0x00 && t.c == 0x02 && t.d == 0xA0 && t.e == 0x01 && t.h == 0x90 && t.l == 0x01 && t.pc
        == 0x8000 && t.read 0xA000 == 0x01 && !t.f.sf && !t.f.zf && !t.f.hf && t.f.pv && !t.f.nf && !t.f.cf) =
        true := by decide

theorem test_v45_9_ldi_address_wrap :
    runs [0xED, 0xA0] { start with h := 0xFF, l := 0xFF, d := 0xFF, e := 0xFF, b := 0x00, c := 0x01, mem := [(0xFFFF, 0x99)] }
      (fun t => t.b == 0x00 && t.c == 0x00 && t.d == 0x00 && t.e == 0x00 && t.h == 0x00 && t.l == 0x00 && t.pc
        == 0x8002 && !t.f.sf && !t.f.zf && !t.f.hf && !t.f.pv && !t.f.nf && !t.f.cf) = true := by decide

theorem test_v45_10_cpi_match :
    runs [0xED, 0xA1] { start with a := 0x42, h := 0x90, l := 0x00, b := 0x00, c := 0x02, f := Flags.ofByte 0x01, mem := [(0x9000, 0x42)] }
      (fun t => t.b == 0x00 && t.c == 0x01 && t.h == 0x90 && t.l == 0x01 && t.pc == 0x8002 && !t.f.sf &&
        t.f.zf && !t.f.hf && t.f.pv && t.f.nf && t.f.cf) = true := by decide

theorem test_v45_12_cpd :
    runs [0xED, 0xA9] { start with a := 0x10, h := 0x90, l := 0x00, b := 0x00, c := 0x05, mem := [(0x9000, 0x01)] }
      (fun t => t.b == 0x00 && t.c == 0x04 && t.h == 0x8F && t.l == 0xFF && t.pc == 0x8002 && !t.f.sf &&
        !t.f.zf && t.f.hf && t.f.pv && t.f.nf && !t.f.cf) = true := by decide

theorem test_v45_17_ldix_copies :
    runs [0xED, 0xA4] { start with a := 0x00, h := 0x90, l := 0x00, d := 0xA0, e := 0x00, b := 0x00, c := 0x02, f := Flags.ofByte 0xFF, mem := [(0x9000, 0x55)] }
      (fun t => t.b == 0x00 && t.c == 0x01 && t.d == 0xA0 && t.e == 0x01 && t.h == 0x90 && t.l == 0x01 && t.pc
        == 0x8002 && t.read 0xA000 == 0x55 && t.f == Flags.ofByte 0xFF) = true := by decide

theorem test_v45_18_ldix_skips :
    runs [0xED, 0xA4] { start with a := 0x55, h := 0x90, l := 0x00, d := 0xA0, e := 0x00, b := 0x00, c := 0x02, mem := [(0x9000, 0x55), (0xA000, 0x11)] }
      (fun t => t.b == 0x00 && t.c == 0x01 && t.d == 0xA0 && t.e == 0x01 && t.h == 0x90 && t.l == 0x01 && t.pc
        == 0x8002) = true := by decide

theorem test_v45_19_lddx :
    runs [0xED, 0xAC] { start with a := 0x00, h := 0x90, l := 0x02, d := 0xA0, e := 0x00, b := 0x00, c := 0x03, mem := [(0x9002, 0x03)] }
      (fun t => t.b == 0x00 && t.c == 0x02 && t.d == 0xA0 && t.e == 0x01 && t.h == 0x90 && t.l == 0x01 && t.pc
        == 0x8002 && t.read 0xA000 == 0x03) = true := by decide

theorem test_v45_23_ldpirx_skip :
    runs [0xED, 0xB7] { start with a := 0x16, h := 0x90, l := 0x00, d := 0xA0, e := 0x06, b := 0x00, c := 0x01, mem := [(0x9000, 0x10), (0x9001, 0x11), (0x9002, 0x12), (0x9003, 0x13), (0x9004, 0x14), (0x9005, 0x15), (0x9006, 0x16), (0x9007, 0x17), (0xA006, 0xEE)] }
      (fun t => t.b == 0x00 && t.c == 0x00 && t.d == 0xA0 && t.e == 0x07 && t.pc == 0x8002) = true := by
        decide

theorem test_v45_24_ldws :
    runs [0xED, 0xA5] { start with h := 0x90, l := 0xFF, d := 0x7F, e := 0x10, f := Flags.ofByte 0x01, mem := [(0x90FF, 0xC3)] }
      (fun t => t.d == 0x80 && t.e == 0x10 && t.h == 0x90 && t.l == 0x00 && t.pc == 0x8002 && t.read 0x7F10 ==
        0xC3 && t.f.sf && !t.f.zf && t.f.hf && t.f.pv && !t.f.nf && t.f.cf) = true := by decide

theorem test_v46_1_in_a_n :
    runs [0xDB, 0xFE] { start with a := 0xDF, f := Flags.ofByte 0xFF, portIn := [0x1F] }
      (fun t => t.a == 0x1F && t.pc == 0x8002 && t.f == Flags.ofByte 0xFF && t.events == [.portRead 0xDFFE
        0x1F]) = true := by decide

theorem test_v46_2_in_b_c :
    runs [0xED, 0x40] { start with b := 0x12, c := 0xFE, f := Flags.ofByte 0x01, portIn := [0x00] }
      (fun t => t.b == 0x00 && t.c == 0xFE && t.pc == 0x8002 && !t.f.sf && t.f.zf && !t.f.hf && t.f.pv &&
        !t.f.nf && t.f.cf && t.events == [.portRead 0x12FE 0x00]) = true := by decide

theorem test_v46_5_in_c :
    runs [0xED, 0x70] { start with b := 0x7F, c := 0xFE, f := Flags.ofByte 0x01, portIn := [0xFF] }
      (fun t => t.pc == 0x8002 && t.f.sf && !t.f.zf && !t.f.hf && t.f.pv && !t.f.nf && t.f.cf && t.events ==
        [.portRead 0x7FFE 0xFF]) = true := by decide

theorem test_v46_6_out_n_a :
    runs [0xD3, 0xFE] { start with a := 0x07, f := Flags.ofByte 0xFF }
      (fun t => t.pc == 0x8002 && t.f == Flags.ofByte 0xFF && t.events == [.portWrite 0x07FE 0x07]) = true :=
        by decide

theorem test_v46_9_out_c_0 :
    runs [0xED, 0x71] { start with b := 0x12, c := 0x34 }
      (fun t => t.pc == 0x8002 && t.events == [.portWrite 0x1234 0x00]) = true := by decide

theorem test_v46_10_ini :
    runs [0xED, 0xA2] { start with b := 0x02, c := 0xFE, h := 0x90, l := 0x00, portIn := [0xAB] }
      (fun t => t.b == 0x01 && t.c == 0xFE && t.h == 0x90 && t.l == 0x01 && t.pc == 0x8002 && t.read 0x9000 ==
        0xAB && !t.f.zf && t.events == [.portRead 0x02FE 0xAB]) = true := by decide

theorem test_v46_15_outi_before :
    runs [0xED, 0xA3] { start with b := 0x02, c := 0xFE, h := 0x90, l := 0x00, mem := [(0x9000, 0x5A)] }
      (fun t => t.b == 0x01 && t.c == 0xFE && t.h == 0x90 && t.l == 0x01 && t.pc == 0x8002 && !t.f.zf &&
        t.events == [.portWrite 0x02FE 0x5A]) = true := by decide

theorem test_v46_19_outinb :
    runs [0xED, 0x90] { start with b := 0x02, c := 0xFE, h := 0x90, l := 0x00, mem := [(0x9000, 0x77)] }
      (fun t => t.h == 0x90 && t.l == 0x01 && t.pc == 0x8002 && t.events == [.portWrite 0x02FE 0x77]) = true
        := by decide

theorem test_v46_20_nextreg_n_n :
    runs [0xED, 0x91, 0x07, 0x03] { start with f := Flags.ofByte 0xFF }
      (fun t => t.pc == 0x8004 && t.f == Flags.ofByte 0xFF && t.events == [.nextRegWrite 0x07 0x03]) = true :=
        by decide

theorem test_v46_22_outi_after :
    runs [0xED, 0xA3] { start with b := 0x02, c := 0xFE, h := 0x90, l := 0x00, mem := [(0x9000, 0x5A)], cfg := { Platform.default with outPortB := .after } }
      (fun t => t.b == 0x01 && t.c == 0xFE && t.h == 0x90 && t.l == 0x01 && t.pc == 0x8002 && !t.f.zf &&
        t.events == [.portWrite 0x01FE 0x5A]) = true := by decide

theorem test_v46_24_outd_after_b_0_wraps :
    runs [0xED, 0xAB] { start with b := 0x00, c := 0xFE, h := 0x90, l := 0x00, mem := [(0x9000, 0xA5)], cfg := { Platform.default with outPortB := .after } }
      (fun t => t.b == 0xFF && t.c == 0xFE && t.h == 0x8F && t.l == 0xFF && t.pc == 0x8002 && !t.f.zf &&
        t.events == [.portWrite 0xFFFE 0xA5]) = true := by decide

theorem test_v47_2_halt :
    runs [0x76] start
      (fun t => t.pc == 0x8001 && t.halted) = true := by decide

theorem test_v47_7_im_2 :
    runs [0xED, 0x5E] start
      (fun t => t.pc == 0x8002 && t.im == .im2) = true := by decide

theorem test_v47_9_reti :
    runs [0xED, 0x4D] { start with iff2 := true, mem := [(0xFF00, 0x34), (0xFF01, 0x12)] }
      (fun t => t.sp == 0xFF02 && t.pc == 0x1234) = true := by decide

theorem test_v47_10_retn_iff2_1 :
    runs [0xED, 0x45] { start with iff2 := true, mem := [(0xFF00, 0x34), (0xFF01, 0x12)] }
      (fun t => t.sp == 0xFF02 && t.pc == 0x1234 && t.iff1) = true := by decide

theorem test_v48_3_pixelad_255_191 :
    runs [0xED, 0x94] { start with d := 0xBF, e := 0xFF }
      (fun t => t.h == 0x57 && t.l == 0xFF && t.pc == 0x8002) = true := by decide

theorem test_v48_10_pixeldn_third_boundary :
    runs [0xED, 0x93] { start with h := 0x47, l := 0xE0 }
      (fun t => t.h == 0x48 && t.l == 0x00 && t.pc == 0x8002) = true := by decide

theorem test_v48_11_pixeldn_last_line :
    runs [0xED, 0x93] { start with h := 0x57, l := 0xFF }
      (fun t => t.h == 0x58 && t.l == 0x1F && t.pc == 0x8002) = true := by decide

theorem test_v30_7_dd_cb_d_36_is_sli_ix_d :
    runs [0xDD, 0xCB, 0x00, 0x36] { start with ix := 0x9000, mem := [(0x9000, 0x01)] }
      (fun t => t.pc == 0x8004 && t.read 0x9000 == 0x03 && !t.f.sf && !t.f.zf && !t.f.hf && t.f.pv && !t.f.nf
        && !t.f.cf) = true := by decide

theorem test_v30_10_dd_66_d_is_ld_h_ix_d_not_ixh :
    runs [0xDD, 0x66, 0x00] { start with ix := 0x9000, mem := [(0x9000, 0x7E)] }
      (fun t => t.h == 0x7E && t.pc == 0x8003) = true := by decide

/-! ## Interrupts and reset, one step each (part 3 of 95_test_vectors.md) -/

/-- One step from `s` reaches a state with `p`. -/
def steps (s : State) (p : State → Bool) : Bool :=
  match step s with
  | .next t => p t
  | .fault _ => false
  | .refused _ => false

/-- INT asserted, with this byte on the bus. -/
def intReq (bus : Byte) : Boundary := { reset := false, nmi := false, int := true, bus := bus }

/-- NMI and INT asserted together. -/
def nmiReq : Boundary := { reset := false, nmi := true, int := true, bus := 0xFF }

/-- Everything asserted. -/
def resetReq : Boundary := { reset := true, nmi := true, int := true, bus := 0xFF }

/-- Interrupts enabled, an INT asserted, about to run at `$8002`. -/
def armed (m : IntMode) (bus : Byte) : State :=
  { start with pc := 0x8002, iff1 := true, iff2 := true, im := m, i := 0x90, intSource := [intReq bus]
               mem := [(0x90FF, 0xA0)] }

theorem test_int_mode1 : steps (armed .im1 0x00)
    (fun t => t.pc == 0x0038 && t.sp == 0xFEFE && t.read 0xFEFE == 0x02 && t.read 0xFEFF == 0x80 && !t.iff1 && !t.iff2
      && t.intSource == []) = true := by decide

theorem test_int_mode2 : steps (armed .im2 0xFE)
    (fun t => t.pc == 0xA000 && t.sp == 0xFEFE && t.read 0xFEFE == 0x02) = true := by decide

theorem test_int_mode0_rst : steps (armed .im0 0xEF) (fun t => t.pc == 0x0028 && t.sp == 0xFEFE) = true := by decide

theorem test_int_mode0_other :
    (match step (armed .im0 0x3E) with | .refused r => r == .mode0BusByte 0x3E | _ => false) = true := by decide

theorem test_int_held_after_ei : steps ({ armed .im1 0xFF with intInhibit := true }.place 0x8002 [0xC9])
    (fun t => t.sp == 0xFF02 && t.iff1 && !t.intInhibit) = true := by decide

theorem test_nmi_before_int : steps { armed .im1 0xFF with intSource := [nmiReq] }
    (fun t => t.pc == 0x0066 && !t.iff1 && t.iff2 && t.sp == 0xFEFE) = true := by decide

theorem test_nmi_pending_di : steps { armed .im1 0xFF with intSource := [nmiReq], diPending := true }
    (fun t => t.pc == 0x0066 && !t.iff1 && !t.iff2 && !t.diPending) = true := by decide

theorem test_reset_before_nmi : steps { armed .im2 0xFF with intSource := [resetReq], halted := true }
    (fun t => t.pc == 0 && t.im == .im0 && !t.iff1 && !t.halted && t.i == 0) = true := by decide

theorem test_halted_stays : steps { start with halted := true, intSource := [intReq 0xFF] }
    (fun t => t.halted && t.pc == 0x8000 && t.sp == 0xFF00) = true := by decide

theorem test_halted_wakes : steps { armed .im1 0xFF with halted := true }
    (fun t => !t.halted && t.pc == 0x0038 && t.read 0xFEFE == 0x02) = true := by decide

theorem test_di_delayed : runs [0xF3]
    { start with iff1 := true, iff2 := true, cfg := { Platform.default with diDelay := true } }
    (fun t => t.iff1 && t.iff2 && t.diPending) = true := by decide

theorem test_di_delay_ends : runs [0x00]
    { start with iff1 := true, iff2 := true, diPending := true, cfg := { Platform.default with diDelay := true } }
    (fun t => !t.iff1 && !t.iff2 && !t.diPending) = true := by decide

theorem test_rom_write_dropped : runs [0x32, 0x00, 0x00]
    { start with a := 0x55, mem := [(0x0000, 0xF3)], cfg := { Platform.default with rom := [(0, 0x3FFF)] } }
    (fun t => t.read 0x0000 == 0xF3 && t.pc == 0x8003) = true := by decide

theorem test_fetch_word : steps (State.reset.withFetchWord 24 0x3A005C) (fun t => t.pc == 3 && t.a == 0) = true := by decide

/-! ## For every statement with hypotheses, a state and operands that meet them

Where a statement has clauses, a witness for each, at a boundary of its range. -/

/-- Memory with a cell at each end and ROM below it. -/
def sample : State :=
  { start with mem := [(0x0000, 0xF3), (0x9000, 0x5A), (0xFFFF, 0xC9)]
               cfg := { Platform.default with rom := [(0, 0x3FFF)] } }

/-- Nothing asserted and one byte at `PC`. -/
def fetching (b : Byte) (s : State) : State := s.loaded [b]

theorem test_witness_ResetTaken : { start with intSource := [resetReq] }.asserted.reset = true := by decide

theorem fetches_iff (s : State) : Fetches s ↔ (!s.asserted.reset && !s.asserted.nmi &&
    !(s.asserted.int && s.iff1 && !s.intInhibit) && !s.halted) = true := by
  unfold Fetches
  cases s.asserted.reset <;> cases s.asserted.nmi <;> cases s.halted <;>
    cases (s.asserted.int && s.iff1 && !s.intInhibit) <;> simp

theorem test_witness_StepRunsDecoded : Fetches (fetching 0x00 sample) ∧ decode (fetching 0x00 sample).fetch = .instr .nop :=
  ⟨(fetches_iff _).2 (by decide), by decide⟩

theorem test_witness_StepRunsDecoded_masked_int :
    Fetches { fetching 0x76 sample with intSource := [intReq 0xFF], diPending := true } ∧
      decode { fetching 0x76 sample with intSource := [intReq 0xFF], diPending := true }.fetch = .instr .halt :=
  ⟨(fetches_iff _).2 (by decide), by decide⟩

theorem test_witness_DecodeEncode : WellFormed (.ldAtNNRR .sp 0xFFFF) = true := by decide

theorem test_witness_DecodeSound : decode [0xED, 0x8A, 0x12, 0x34, 0x00] = .instr (.pushNN 0x1234) := by decide

theorem test_witness_ReservedExactly : Fetches (start.loaded [0xED, 0xFF]) ∧
    decode (start.loaded [0xED, 0xFF]).fetch = .rejected (.reservedED 0xFF) :=
  ⟨(fetches_iff _).2 (by decide), by decide⟩

/-- The invariant of a halted machine. -/
theorem halted_inv : ({ sample with halted := true, iff1 := true, iff2 := true } : State).Inv :=
  ⟨by decide, by decide, by decide, by decide, by decide⟩

theorem test_witness_InvariantKept :
    ({ sample with halted := true, iff1 := true, iff2 := true } : State).Inv ∧
      steps { sample with halted := true, iff1 := true, iff2 := true } (fun _ => true) = true :=
  ⟨halted_inv, by decide⟩

theorem test_witness_InvariantKept_pending :
    ({ start with diPending := true, cfg := { Platform.default with diDelay := true } } : State).Inv :=
  ⟨by decide, by decide, by decide, by decide, by decide⟩

theorem test_witness_EnvironmentKept : steps (start.loaded [0xD3, 0xFE])
    (fun t => t.events == [.portWrite 0x00FE 0x00]) = true := by decide

theorem test_witness_RegisterFrame : exec .nop start = .next { start with pc := 0x8001 } ∧ Place.a ∉ touched .nop :=
  ⟨rfl, by decide⟩

theorem test_witness_MemoryFrame : exec (.ldAtNNA 0x9000) sample = .next ((sample.write 0x9000 0x00).advance 3) ∧
    (0x9001 : Word) ∉ stores sample (.ldAtNNA 0x9000) :=
  ⟨rfl, by decide⟩

theorem test_witness_EveryInstructionCompletes : transfers .halt = false := by decide

theorem test_witness_ParityCountsOnes : parity 0x00 = true ∧ parity 0x01 = false := by decide

theorem test_witness_ConditionsReadFlags :
    (7, Cond.m) ∈ [(0, Cond.nz), (1, .z), (2, .nc), (3, .c), (4, .po), (5, .pe), (6, .p), (7, .m)] := by decide

theorem test_witness_StoreByte : sample.mem.wf = true ∧ writable sample.cfg 0x3FFF = false ∧
    writable sample.cfg 0x4000 = true := by decide

theorem test_witness_StoreWord : sample.mem.wf = true := by decide

theorem test_witness_PushPop : sample.mem.wf = true := by decide

theorem test_witness_PushThenPop : sample.mem.wf = true ∧ writable sample.cfg (sample.sp - 1) = true ∧
    writable sample.cfg (sample.sp - 2) = true := by decide

theorem test_witness_ExchangeStackTop : sample.mem.wf = true := by decide

theorem test_witness_IncDecResults : sample.mem.wf = true := by decide

theorem test_witness_DecimalArithmetic : 99 < 100 ∧ 0 < 100 ∧ { start with a := 0x99 }.a = bcd 99 := by decide

theorem test_witness_RotateResults : sample.mem.wf = true := by decide

theorem test_witness_ShiftResults : sample.mem.wf = true := by decide

theorem test_witness_NibbleRotates : { sample with h := 0x90 }.mem.wf = true ∧
    writable { sample with h := 0x90 }.cfg { sample with h := 0x90 }.hl = true := by decide

theorem test_witness_PairArithmetic :
    { start with cfg := { Platform.default with addAKeepsUnnamed := true } }.cfg.addAKeepsUnnamed = true := by decide

theorem test_witness_BitWrites : sample.mem.wf = true := by decide

theorem test_witness_PixelAddresses : { start with d := 190 }.d.toNat < 191 := by decide

theorem test_witness_CallsAndReturns : sample.mem.wf = true ∧ sample.cond .z = false ∧ sample.cond .nz = true := by decide

theorem test_witness_CallThenReturn : sample.mem.wf = true ∧ writable sample.cfg (sample.sp - 1) = true ∧
    writable sample.cfg (sample.sp - 2) = true := by decide

theorem test_witness_BlockCopies : sample.mem.wf = true := by decide

theorem test_witness_NextBlockCopies : sample.mem.wf = true := by decide

/-- Two bytes to be copied from `$9000` to `$A000`. -/
def twoBytes : State := { start with h := 0x90, d := 0xA0, c := 2, mem := [(0x9000, 1), (0x9001, 2)] }

theorem test_witness_LdirCopiesBlock : twoBytes.mem.wf = true ∧ twoBytes.cfg.rom = [] ∧ twoBytes.bc ≠ 0 ∧
    ∀ j k : Nat, j < twoBytes.bc.toNat → k < twoBytes.bc.toNat →
      twoBytes.de + BitVec.ofNat 16 j ≠ twoBytes.hl + BitVec.ofNat 16 k := by
  refine ⟨by decide, by decide, by decide, ?_⟩
  have h : twoBytes.bc.toNat = 2 := by decide
  rw [h]
  intro j k hj hk
  have hj' : j = 0 ∨ j = 1 := by omega
  have hk' : k = 0 ∨ k = 1 := by omega
  rcases hj' with rfl | rfl <;> rcases hk' with rfl | rfl <;> decide

theorem test_witness_BlockInputOutput : sample.mem.wf = true := by decide

theorem test_witness_CpuControl : start.cfg.diDelay = false ∧
    { start with cfg := { Platform.default with diDelay := true } }.cfg.diDelay = true := by decide

theorem test_witness_InterruptTaken_mode0_rst : (armed .im0 0xC7).mem.wf = true ∧
    (armed .im0 0xC7).asserted = { reset := false, nmi := false, int := true, bus := 0xC7 } ∧
    (armed .im0 0xC7).iff1 = true ∧ (armed .im0 0xC7).intInhibit = false ∧ (armed .im0 0xC7).im = .im0 ∧
    (0xC7 : Byte) &&& 0xC7 = 0xC7 := by decide

theorem test_witness_InterruptTaken_mode0_other : (armed .im0 0xC6).mem.wf = true ∧
    (armed .im0 0xC6).asserted = { reset := false, nmi := false, int := true, bus := 0xC6 } ∧
    (armed .im0 0xC6).iff1 = true ∧ (armed .im0 0xC6).intInhibit = false ∧ (armed .im0 0xC6).im = .im0 ∧
    (0xC6 : Byte) &&& 0xC7 ≠ 0xC7 := by decide

theorem test_witness_InterruptTaken_mode1 : (armed .im1 0xFF).mem.wf = true ∧
    (armed .im1 0xFF).asserted = { reset := false, nmi := false, int := true, bus := 0xFF } ∧
    (armed .im1 0xFF).iff1 = true ∧ (armed .im1 0xFF).intInhibit = false ∧ (armed .im1 0xFF).im = .im1 := by decide

theorem test_witness_InterruptTaken_mode2 : (armed .im2 0xFF).mem.wf = true ∧
    (armed .im2 0xFF).asserted = { reset := false, nmi := false, int := true, bus := 0xFF } ∧
    (armed .im2 0xFF).iff1 = true ∧ (armed .im2 0xFF).intInhibit = false ∧ (armed .im2 0xFF).im = .im2 := by decide

/-- An NMI about to be taken with interrupts enabled. -/
def nmiNext : State := { armed .im1 0xFF with intSource := [nmiReq] }

theorem test_witness_NmiTaken : nmiNext.mem.wf = true ∧ nmiNext.asserted.reset = false ∧
    nmiNext.asserted.nmi = true := by decide

theorem test_witness_NmiThenReturn : nmiNext.mem.wf = true ∧ nmiNext.asserted.reset = false ∧
    nmiNext.asserted.nmi = true ∧ nmiNext.diPending = false ∧ nmiNext.iff1 = nmiNext.iff2 ∧
    writable nmiNext.cfg (nmiNext.sp - 1) = true ∧ writable nmiNext.cfg (nmiNext.sp - 2) = true := by decide

/-- Halted with a masked INT. -/
def haltedMasked : State := { start with halted := true, intSource := [intReq 0xFF] }

theorem test_witness_HaltStays : haltedMasked.halted = true ∧ haltedMasked.asserted.reset = false ∧
    haltedMasked.asserted.nmi = false ∧
    (haltedMasked.asserted.int && haltedMasked.iff1 && !haltedMasked.intInhibit) = false := by decide

theorem test_witness_EnableDelay : Fetches (fetching 0xFB start) ∧ decode (fetching 0xFB start).fetch = .instr .ei ∧
    (fetching 0xFB start).diPending = false :=
  ⟨(fetches_iff _).2 (by decide), by decide, by decide⟩

/-- `di_delay` = 1. -/
def delayed : State := { start with iff1 := true, iff2 := true, cfg := { Platform.default with diDelay := true } }

theorem test_witness_DisableDelay_di : Fetches (fetching 0xF3 delayed) ∧
    decode (fetching 0xF3 delayed).fetch = .instr .di ∧ (fetching 0xF3 delayed).cfg.diDelay = true ∧
    (fetching 0xF3 delayed).diPending = false :=
  ⟨(fetches_iff _).2 (by decide), by decide, by decide, by decide⟩

theorem test_witness_DisableDelay_next : Fetches (fetching 0xFB { delayed with diPending := true }) ∧
    decode (fetching 0xFB { delayed with diPending := true }).fetch = .instr .ei ∧
    (fetching 0xFB { delayed with diPending := true }).diPending = true :=
  ⟨(fetches_iff _).2 (by decide), by decide, by decide⟩

end Sys2Proof.Tests
end

section
/-! PROOF. The environment over a step (O10): a relation that says how the fields which are not the CPU's may move, one
rule per shared operation, every instruction by the operations it is made of, then what a boundary can do. -/

namespace Sys2Proof.Machine

/-- From `s` to `t` no parameter changes and no boundary is used up, events are only appended, and draws are never taken
back (R6, R8, R9, R901). -/
structure State.EnvExtends (s t : State) : Prop where
  cfg_eq : t.cfg = s.cfg
  events_kept : s.events <+: t.events
  intSource_eq : t.intSource = s.intSource
  draws_le : s.draws ≤ t.draws

namespace State.EnvExtends

variable {s t u : State}

/-! ## One rule per shared operation -/

/-- What leaves all four fields alone. -/
theorem of_eq (hc : t.cfg = s.cfg) (he : t.events = s.events) (hi : t.intSource = s.intSource)
    (hd : t.draws = s.draws) : s.EnvExtends t :=
  ⟨hc, ⟨[], (List.append_nil _).trans he.symm⟩, hi, hd.ge⟩

/-- What takes `n` draws and leaves the three other fields alone. -/
theorem of_drew {n : Nat} (hc : t.cfg = s.cfg) (he : t.events = s.events) (hi : t.intSource = s.intSource)
    (hd : t.draws = s.draws + n) : s.EnvExtends t :=
  ⟨hc, ⟨[], (List.append_nil _).trans he.symm⟩, hi, hd ▸ Nat.le_add_right _ _⟩

theorem refl (s : State) : s.EnvExtends s := of_eq rfl rfl rfl rfl

theorem trans (h : s.EnvExtends t) (k : t.EnvExtends u) : s.EnvExtends u :=
  ⟨k.cfg_eq.trans h.cfg_eq, h.events_kept.trans k.events_kept, k.intSource_eq.trans h.intSource_eq,
    h.draws_le.trans k.draws_le⟩

theorem ite {c : Prop} [Decidable c] (ht : s.EnvExtends t) (hu : s.EnvExtends u) :
    s.EnvExtends (if c then t else u) := by
  split
  · exact ht
  · exact hu

/-! Registers and memory. -/

theorem set {k : Reg8} {v : Byte} (h : s.EnvExtends t) : s.EnvExtends (t.set k v) := h.trans (of_eq rfl rfl rfl rfl)

theorem write {x : Word} {v : Byte} (h : s.EnvExtends t) : s.EnvExtends (t.write x v) :=
  h.trans (of_eq rfl rfl rfl rfl)

theorem goto {x : Word} (h : s.EnvExtends t) : s.EnvExtends (t.goto x) := h.trans (of_eq rfl rfl rfl rfl)

theorem setBC {v : Word} (h : s.EnvExtends t) : s.EnvExtends (t.setBC v) := h.trans (of_eq rfl rfl rfl rfl)

theorem setDE {v : Word} (h : s.EnvExtends t) : s.EnvExtends (t.setDE v) := h.trans (of_eq rfl rfl rfl rfl)

theorem setHL {v : Word} (h : s.EnvExtends t) : s.EnvExtends (t.setHL v) := h.trans (of_eq rfl rfl rfl rfl)

theorem setAF {v : Word} (h : s.EnvExtends t) : s.EnvExtends (t.setAF v) := h.trans (of_eq rfl rfl rfl rfl)

theorem setSP {v : Word} (h : s.EnvExtends t) : s.EnvExtends (t.setSP v) := h.trans (of_eq rfl rfl rfl rfl)

theorem setIndex {p : IndexReg} {v : Word} (h : s.EnvExtends t) : s.EnvExtends (t.setIndex p v) :=
  h.trans (of_eq rfl rfl rfl rfl)

theorem popped (h : s.EnvExtends t) : s.EnvExtends t.popped := h.trans (of_eq rfl rfl rfl rfl)

theorem advance {n : Nat} (h : s.EnvExtends t) : s.EnvExtends (t.advance n) := h.goto

theorem leave (h : s.EnvExtends t) : s.EnvExtends t.leave := h.popped.goto

theorem write16 {x v : Word} (h : s.EnvExtends t) : s.EnvExtends (t.write16 x v) := h.write.write

theorem push {v : Word} (h : s.EnvExtends t) : s.EnvExtends (t.push v) :=
  have moved : s.EnvExtends { t with sp := t.sp - 2 } := h.trans (of_eq rfl rfl rfl rfl)
  moved.write.write

theorem enter {ret target : Word} (h : s.EnvExtends t) : s.EnvExtends (t.enter ret target) := h.push.goto

theorem replaceTop {v : Word} (h : s.EnvExtends t) : s.EnvExtends (t.replaceTop v) := h.write16

theorem setPair {q : Pair} {v : Word} (h : s.EnvExtends t) : s.EnvExtends (t.setPair q v) := by
  cases q with
  | bc => exact h.setBC
  | de => exact h.setDE
  | hl => exact h.setHL
  | sp => exact h.setSP

theorem setPairAF {q : PairAF} {v : Word} (h : s.EnvExtends t) : s.EnvExtends (t.setPairAF q v) := by
  cases q with
  | bc => exact h.setBC
  | de => exact h.setDE
  | hl => exact h.setHL
  | af => exact h.setAF

theorem setHalf {p : IndexReg} {k : Half} {v : Byte} (h : s.EnvExtends t) : s.EnvExtends (t.setHalf p k v) := by
  cases k with
  | high => exact h.setIndex
  | low => exact h.setIndex

theorem mapReg {f : Byte → Byte} {k : Reg8} (h : s.EnvExtends t) : s.EnvExtends (t.mapReg f k) := h.set

theorem mapAt {f : Byte → Byte} {x : Word} (h : s.EnvExtends t) : s.EnvExtends (t.mapAt f x) := h.write

theorem mapAtCopy {f : Byte → Byte} {x : Word} {k : Reg8} (h : s.EnvExtends t) : s.EnvExtends (t.mapAtCopy f x k) :=
  h.write.set

theorem repeatUnless {stop : Bool} (h : s.EnvExtends t) : s.EnvExtends (t.repeatUnless stop) := ite h.advance h

theorem disable (h : s.EnvExtends t) : s.EnvExtends t.disable :=
  ite (h.trans (of_eq rfl rfl rfl rfl)) (h.trans (of_eq rfl rfl rfl rfl))

/-! Draws, for the flags. -/

theorem drew {n : Nat} (h : s.EnvExtends t) : s.EnvExtends (t.drew n) := h.trans (of_drew rfl rfl rfl rfl)

theorem setFlags {n : Named} (h : s.EnvExtends t) : s.EnvExtends (t.setFlags n) := h.trans (of_drew rfl rfl rfl rfl)

theorem freeFlags (h : s.EnvExtends t) : s.EnvExtends t.freeFlags := h.trans (of_drew rfl rfl rfl rfl)

theorem freeCarry (h : s.EnvExtends t) : s.EnvExtends t.freeCarry := h.trans (of_drew rfl rfl rfl rfl)

theorem accumulate {r : Byte × Named} (h : s.EnvExtends t) : s.EnvExtends (t.accumulate r) := h.set.setFlags

theorem accumulateHL {r : Word × Named} (h : s.EnvExtends t) : s.EnvExtends (t.accumulateHL r) := h.setHL.setFlags

section
variable {op : Byte → Bool → Byte × Named}

theorem modifyReg {k : Reg8} (h : s.EnvExtends t) : s.EnvExtends (t.modifyReg op k) := h.set.setFlags

theorem modifyHalf {p : IndexReg} {k : Half} (h : s.EnvExtends t) : s.EnvExtends (t.modifyHalf op p k) :=
  h.setHalf.setFlags

theorem modifyAt {x : Word} (h : s.EnvExtends t) : s.EnvExtends (t.modifyAt op x) := h.write.setFlags

theorem modifyAtCopy {x : Word} {k : Reg8} (h : s.EnvExtends t) : s.EnvExtends (t.modifyAtCopy op x k) :=
  h.write.set.setFlags

theorem rotateA (h : s.EnvExtends t) : s.EnvExtends (t.rotateA op) := h.set.setFlags

end

theorem nibbles {m a : Byte} (h : s.EnvExtends t) : s.EnvExtends (t.nibbles m a) := h.write.set.setFlags

theorem loadA {v : Byte} (h : s.EnvExtends t) : s.EnvExtends (t.loadA v) := h.set.setFlags

theorem testBit {b : BitVec 3} {v : Byte} (h : s.EnvExtends t) : s.EnvExtends (t.testBit b v) := h.drew.setFlags

/-! Events, at a port or a Next register. -/

theorem event {e : Event} (h : s.EnvExtends t) : s.EnvExtends (t.event e) :=
  h.trans ⟨rfl, ⟨_, rfl⟩, rfl, le_rfl⟩

theorem portWrite {x : Word} {v : Byte} (h : s.EnvExtends t) : s.EnvExtends (t.portWrite x v) := h.event

theorem nextRegWrite {g v : Byte} (h : s.EnvExtends t) : s.EnvExtends (t.nextRegWrite g v) := h.event

theorem portRead {x : Word} (h : s.EnvExtends t) : s.EnvExtends (t.portRead x) :=
  h.trans ⟨rfl, ⟨_, rfl⟩, rfl, Nat.le_add_right _ _⟩

theorem portFlags {v : Byte} (h : s.EnvExtends t) : s.EnvExtends (t.portFlags v) := h.setFlags

/-! The bodies of the block instructions. -/

theorem copyByte {k : Word} (h : s.EnvExtends t) : s.EnvExtends (t.copyByte k) := h.write.setHL.setDE.setBC.setFlags

theorem compareByte {k : Word} (h : s.EnvExtends t) : s.EnvExtends (t.compareByte k) := h.setHL.setBC.setFlags

theorem storeUnlessA {v : Byte} (h : s.EnvExtends t) : s.EnvExtends (t.storeUnlessA v) := ite h.write h

theorem maskedCopy {k : Word} (h : s.EnvExtends t) : s.EnvExtends (t.maskedCopy k) := h.storeUnlessA.setHL.setDE.setBC

theorem patternCopy (h : s.EnvExtends t) : s.EnvExtends t.patternCopy := h.storeUnlessA.setDE.setBC

theorem countB {k : Word} (h : s.EnvExtends t) : s.EnvExtends (t.countB k) := h.setHL.set.drew.setFlags

theorem inputByte {k : Word} (h : s.EnvExtends t) : s.EnvExtends (t.inputByte k) := h.portRead.write.countB

theorem outputByte {k : Word} (h : s.EnvExtends t) : s.EnvExtends (t.outputByte k) := h.portWrite.countB

/-! Taking a reset or an interrupt, and what surrounds an instruction. -/

theorem acceptReset (h : s.EnvExtends t) : s.EnvExtends t.acceptReset := h.trans (of_drew (n := 36) rfl rfl rfl rfl)

theorem acknowledged (h : s.EnvExtends t) : s.EnvExtends t.acknowledged := h.trans (of_eq rfl rfl rfl rfl)

theorem acceptNmi (h : s.EnvExtends t) : s.EnvExtends t.acceptNmi := enter (h.trans (of_eq rfl rfl rfl rfl))

theorem finish {w : Bool} (h : s.EnvExtends t) : s.EnvExtends (t.finish w) := h.trans (of_eq rfl rfl rfl rfl)

end State.EnvExtends

/-! ## Every instruction -/

/-- Each instruction completes in a state that extends the environment of the one before it. The arms sort the
instructions by what they do to it, and each names the operations that the instruction is made of. -/
theorem exec_envExtends (i : Instr) (s : State) : Runs i s s.EnvExtends := by
  cases i with
  -- Registers, memory and `PC`: no field of the environment moves.
  | ldRR | ldRN | ldRAtHL | ldRAtIXd | ldRAtIYd | ldAAtNN | ldRIXH | ldRIXL | ldRIYH | ldRIYL | ldAAtBC | ldAAtDE
  | mirrorA | swapnib | setae =>
    exact ⟨_, rfl, .advance (.set (.refl s))⟩
  | ldAtHLR | ldAtHLN | ldAtIXdR | ldAtIXdN | ldAtIYdR | ldAtIYdN | ldAtNNA | ldAtBCA | ldAtDEA =>
    exact ⟨_, rfl, .advance (.write (.refl s))⟩
  | ldIXHR | ldIXHN | ldIXLR | ldIXLN | ldIYHR | ldIYHN | ldIYLR | ldIYLN | ldIXHIXH | ldIXHIXL | ldIXLIXH
  | ldIXLIXL | ldIYHIYH | ldIYHIYL | ldIYLIYH | ldIYLIYL =>
    exact ⟨_, rfl, .advance (.setHalf (.refl s))⟩
  | ldRRNN | ldRRAtNN | incRR | decRR => exact ⟨_, rfl, .advance (.setPair (.refl s))⟩
  | ldHLAtNN | addHLNN | pixelad | pixeldn => exact ⟨_, rfl, .advance (.setHL (.refl s))⟩
  | ldAtNNHL | ldAtNNRR | ldAtNNIX | ldAtNNIY => exact ⟨_, rfl, .advance (.write16 (.refl s))⟩
  | ldIXNN | ldIXAtNN | ldIYNN | ldIYAtNN | incIX | decIX | incIY | decIY =>
    exact ⟨_, rfl, .advance (.setIndex (.refl s))⟩
  | pushRR | pushNN | pushIX | pushIY => exact ⟨_, rfl, .advance (.push (.refl s))⟩
  | popRR => exact ⟨_, rfl, .advance (.setPairAF (.popped (.refl s)))⟩
  | addDENN | mulDE | bslaDEB | bsraDEB | bsrlDEB | bsrfDEB | brlcDEB =>
    exact ⟨_, rfl, .advance (.setDE (.refl s))⟩
  | addBCNN => exact ⟨_, rfl, .advance (.setBC (.refl s))⟩
  | resBR | setBR => exact ⟨_, rfl, .advance (.mapReg (.refl s))⟩
  | resBAtHL | setBAtHL | resBAtIXd | setBAtIXd | resBAtIYd | setBAtIYd =>
    exact ⟨_, rfl, .advance (.mapAt (.refl s))⟩
  | resBAtIXdR | setBAtIXdR | resBAtIYdR | setBAtIYdR => exact ⟨_, rfl, .advance (.mapAtCopy (.refl s))⟩
  | jpNN | jrE | jpAtHL | jpAtIX | jpAtIY => exact ⟨_, rfl, .goto (.refl s)⟩
  | jpCondNN | jrCondE => exact ⟨_, rfl, .ite (.goto (.refl s)) (.advance (.refl s))⟩
  | djnzE => exact ⟨_, rfl, .ite (.goto (.set (.refl s))) (.advance (.set (.refl s)))⟩
  | callNN | rstN => exact ⟨_, rfl, .enter (.refl s)⟩
  | callCondNN => exact ⟨_, rfl, .ite (.enter (.refl s)) (.advance (.refl s))⟩
  | retCond => exact ⟨_, rfl, .ite (.leave (.refl s)) (.advance (.refl s))⟩
  | ldIA | ldRfshA | exAFAFAlt | exx | halt | ei | im0 | im1 | im2 | retn =>
    exact ⟨_, rfl, .of_eq rfl rfl rfl rfl⟩
  | ldSPHL | ldSPIX | ldSPIY => exact ⟨_, rfl, .advance (.setSP (.refl s))⟩
  | popIX | popIY => exact ⟨_, rfl, .advance (.setIndex (.popped (.refl s)))⟩
  | exDEHL => exact ⟨_, rfl, .advance (.setHL (.setDE (.refl s)))⟩
  | exAtSPHL => exact ⟨_, rfl, .advance (.setHL (.replaceTop (.refl s)))⟩
  | exAtSPIX | exAtSPIY => exact ⟨_, rfl, .advance (.setIndex (.replaceTop (.refl s)))⟩
  | ret | reti => exact ⟨_, rfl, .leave (.refl s)⟩
  | ldix | lddx => exact ⟨_, rfl, .advance (.maskedCopy (.refl s))⟩
  | ldirx | lddrx => exact ⟨_, rfl, .repeatUnless (.maskedCopy (.refl s))⟩
  | ldpirx => exact ⟨_, rfl, .repeatUnless (.patternCopy (.refl s))⟩
  | nop => exact ⟨_, rfl, .advance (.refl s)⟩
  | di => exact ⟨_, rfl, .advance (.disable (.refl s))⟩
  -- Flags: draws are taken.
  | addAR | addAN | addAAtIXd | addAAtIYd | adcAR | adcAN | adcAAtIXd | adcAAtIYd | subR | subN | subAtIXd
  | subAtIYd | sbcAR | sbcAN | sbcAAtIXd | sbcAAtIYd | andR | andN | andAtIXd | andAtIYd | xorR | xorN | xorAtIXd
  | xorAtIYd | orR | orN | orAtIXd | orAtIYd | addAAtHL | addAIXH | addAIXL | addAIYH | addAIYL | adcAAtHL | adcAIXH
  | adcAIXL | adcAIYH | adcAIYL | subAtHL | subIXH | subIXL | subIYH | subIYL | sbcAAtHL | sbcAIXH | sbcAIXL
  | sbcAIYH | sbcAIYL | andAtHL | andIXH | andIXL | andIYH | andIYL | xorAtHL | xorIXH | xorIXL | xorIYH | xorIYL
  | orAtHL | orIXH | orIXL | orIYH | orIYL | daa =>
    exact ⟨_, rfl, .advance (.accumulate (.refl s))⟩
  | cpR | cpN | cpAtIXd | cpAtIYd | cpAtHL | cpIXH | cpIXL | cpIYH | cpIYL | testN | scf =>
    exact ⟨_, rfl, .advance (.setFlags (.refl s))⟩
  | incR | decR | rlcR | rrcR | rlR | rrR | slaR | sraR | sliR | srlR =>
    exact ⟨_, rfl, .advance (.modifyReg (.refl s))⟩
  | incAtIXd | incAtIYd | decAtIXd | decAtIYd | rlcAtIXd | rlcAtIYd | rrcAtIXd | rrcAtIYd | rlAtIXd | rlAtIYd
  | rrAtIXd | rrAtIYd | slaAtIXd | slaAtIYd | sraAtIXd | sraAtIYd | sliAtIXd | sliAtIYd | srlAtIXd | srlAtIYd
  | incAtHL | decAtHL | rlcAtHL | rrcAtHL | rlAtHL | rrAtHL | slaAtHL | sraAtHL | sliAtHL | srlAtHL =>
    exact ⟨_, rfl, .advance (.modifyAt (.refl s))⟩
  | addHLRR | adcHLRR | sbcHLRR => exact ⟨_, rfl, .advance (.accumulateHL (.refl s))⟩
  | addIXRR | addIYRR => exact ⟨_, rfl, .advance (.setFlags (.setIndex (.refl s)))⟩
  | rlcAtIXdR | rlcAtIYdR | rrcAtIXdR | rrcAtIYdR | rlAtIXdR | rlAtIYdR | rrAtIXdR | rrAtIYdR | slaAtIXdR
  | slaAtIYdR | sraAtIXdR | sraAtIYdR | sliAtIXdR | sliAtIYdR | srlAtIXdR | srlAtIYdR =>
    exact ⟨_, rfl, .advance (.modifyAtCopy (.refl s))⟩
  | bitBR | bitBAtHL | bitBAtIXd | bitBAtIYd => exact ⟨_, rfl, .advance (.testBit (.refl s))⟩
  | ldAI => exact ⟨_, rfl, .advance (.loadA (.refl s))⟩
  | ldARfsh => exact ⟨_, rfl, .advance (.loadA (.drew (.refl s)))⟩
  | incIXH | incIXL | incIYH | incIYL | decIXH | decIXL | decIYH | decIYL =>
    exact ⟨_, rfl, .advance (.modifyHalf (.refl s))⟩
  | cpl => exact ⟨_, rfl, .advance (.setFlags (.set (.refl s)))⟩
  | neg => exact ⟨_, rfl, .advance (.accumulate (.drew (.refl s)))⟩
  | ccf => exact ⟨_, rfl, .advance (.setFlags (.drew (.refl s)))⟩
  | addHLA => exact ⟨_, rfl, .advance (.freeCarry (.setHL (.refl s)))⟩
  | addDEA => exact ⟨_, rfl, .advance (.freeCarry (.setDE (.refl s)))⟩
  | addBCA => exact ⟨_, rfl, .advance (.freeCarry (.setBC (.refl s)))⟩
  | rlca | rla | rrca | rra => exact ⟨_, rfl, .advance (.rotateA (.refl s))⟩
  | rld | rrd => exact ⟨_, rfl, .advance (.nibbles (.refl s))⟩
  | ldi | ldd => exact ⟨_, rfl, .advance (.copyByte (.refl s))⟩
  | ldir | lddr => exact ⟨_, rfl, .repeatUnless (.copyByte (.refl s))⟩
  | cpi | cpd => exact ⟨_, rfl, .advance (.compareByte (.refl s))⟩
  | cpir | cpdr => exact ⟨_, rfl, .repeatUnless (.compareByte (.refl s))⟩
  | ldws => exact ⟨_, rfl, .advance (.setFlags (.set (.set (.write (.refl s)))))⟩
  -- Ports and Next registers: events are appended.
  | inAAtN => exact ⟨_, rfl, .advance (.set (.portRead (.refl s)))⟩
  | inRAtC => exact ⟨_, rfl, .advance (.portFlags (.set (.portRead (.refl s))))⟩
  | outAtNA | outAtCR | outAtCZero => exact ⟨_, rfl, .advance (.portWrite (.refl s))⟩
  | nextregNN | nextregNA => exact ⟨_, rfl, .advance (.nextRegWrite (.refl s))⟩
  | jpAtC => exact ⟨_, rfl, .goto (.freeFlags (.portRead (.refl s)))⟩
  | inAtC => exact ⟨_, rfl, .advance (.portFlags (.portRead (.refl s)))⟩
  | ini | ind => exact ⟨_, rfl, .advance (.inputByte (.refl s))⟩
  | inir | indr => exact ⟨_, rfl, .repeatUnless (.inputByte (.refl s))⟩
  | outi | outd => exact ⟨_, rfl, .advance (.outputByte (.refl s))⟩
  | otir | otdr => exact ⟨_, rfl, .repeatUnless (.outputByte (.refl s))⟩
  | outinb => exact ⟨_, rfl, .advance (.freeFlags (.setHL (.portWrite (.refl s))))⟩

/-! ## The boundary -/

/-- An accepted INT enters its handler, in every mode (R903 to R906). -/
theorem State.acceptInt_next {s t : State} {bus : Byte} (h : s.acceptInt bus = .next t) :
    ∃ target, t = s.acknowledged.enter s.pc target := by
  simp only [State.acceptInt] at h
  split at h
  · split at h
    · exact ⟨_, (Host.Outcome.next.inj h).symm⟩
    · cases h
  · exact ⟨_, (Host.Outcome.next.inj h).symm⟩
  · exact ⟨_, (Host.Outcome.next.inj h).symm⟩

/-- What a boundary that is the whole step can lead to: a reset, an NMI, an INT or staying halted (R902, R907). -/
theorem State.boundary_next {s t : State} (h : s.boundary = some (.next t)) :
    t = s.sampled.acceptReset ∨ t = s.sampled.acceptNmi ∨
      (∃ target, t = s.sampled.acknowledged.enter s.sampled.pc target) ∨ t = s.sampled := by
  simp only [State.boundary] at h
  split at h
  · exact .inl (Host.Outcome.next.inj (Option.some.inj h)).symm
  · split at h
    · exact .inr (.inl (Host.Outcome.next.inj (Option.some.inj h)).symm)
    · split at h
      · exact .inr (.inr (.inl (State.acceptInt_next (Option.some.inj h))))
      · split at h
        · exact .inr (.inr (.inr (Host.Outcome.next.inj (Option.some.inj h)).symm))
        · cases h

/-- Past the boundary's own entry of `IntSource`, whatever it takes extends the environment (log 13 for the reset). -/
theorem State.boundary_envExtends {s t : State} (h : s.boundary = some (.next t)) : s.sampled.EnvExtends t := by
  obtain rfl | rfl | ⟨target, rfl⟩ | rfl := State.boundary_next h
  · exact .acceptReset (.refl _)
  · exact .acceptNmi (.refl _)
  · exact .enter (.acknowledged (.refl _))
  · exact .refl _

/-! ## One step -/

/-- A step that answers a next state is a boundary's event or a fetched instruction (R902, R223). -/
theorem step_next {s t : State} (h : step s = .next t) :
    s.boundary = some (.next t) ∨
      ∃ i u, s.boundary = none ∧ decode s.fetch = .instr i ∧ exec i s.begin = .next u ∧
        t = u.finish s.diPending := by
  cases hb : s.boundary with
  | some o => exact .inl (congrArg some ((step_event hb).symm.trans h))
  | none =>
    cases hd : decode s.fetch with
    | instr i =>
      obtain ⟨u, hu, ht⟩ := finishing_next ((step_instr hb hd).symm.trans h)
      exact .inr ⟨i, u, rfl, rfl, hu, ht⟩
    | rejected e => cases (step_rejected hb hd).symm.trans h

/-- A step uses up its entry of `IntSource`; from there on it extends the environment. -/
theorem step_envExtends {s t : State} (h : step s = .next t) : s.sampled.EnvExtends t := by
  obtain hb | ⟨i, u, -, -, hu, rfl⟩ := step_next h
  · exact State.boundary_envExtends hb
  · obtain ⟨u', hu', ext⟩ := exec_envExtends i s.begin
    obtain rfl : u' = u := Host.Outcome.next.inj (hu'.symm.trans hu)
    have begun : s.sampled.EnvExtends s.begin := .of_eq rfl rfl rfl rfl
    exact (begun.trans ext).finish

/-- Settles O10: the rules above, with what sampling the boundary leaves of the four fields. -/
theorem environmentKept : Obligations.EnvironmentKept := by
  intro s t h
  obtain ⟨hc, he, hi, hd⟩ := step_envExtends h
  simp only [State.sampled_cfg, State.sampled_events, State.sampled_intSource, State.sampled_draws] at hc he hi hd
  exact ⟨hc, he, hi, hd⟩

end Sys2Proof.Machine
end

section
/-! PROOF. The frame of every instruction (O11): a relation that says which places of the state may differ, one rule per
shared operation, then every instruction by the operations it is made of. -/

namespace Sys2Proof.Machine

/-! ## Places -/

@[simp] theorem regPlace_a : regPlace .a = .a := rfl
@[simp] theorem regPlace_b : regPlace .b = .b := rfl
@[simp] theorem regPlace_c : regPlace .c = .c := rfl
@[simp] theorem regPlace_d : regPlace .d = .d := rfl
@[simp] theorem regPlace_e : regPlace .e = .e := rfl
@[simp] theorem regPlace_h : regPlace .h = .h := rfl
@[simp] theorem regPlace_l : regPlace .l = .l := rfl

/-- The place of an index register. -/
def indexPlace : IndexReg → Place
  | .ix => .ix
  | .iy => .iy

@[simp] theorem indexPlace_ix : indexPlace .ix = .ix := rfl
@[simp] theorem indexPlace_iy : indexPlace .iy = .iy := rfl

theorem Place.same_trans {p : Place} {s t u : State} (h : p.same s t) (k : p.same t u) : p.same s u := by
  cases p <;> exact Eq.trans k h

/-- From `s` to `t` every place outside `L` holds what it held. -/
def State.KeepsBut (s : State) (L : List Place) (t : State) : Prop := ∀ p, p ∉ L → p.same s t

/-- Of the six named flags, those whose places are outside `L` are the same. -/
structure Named.AgreesBut (L : List Place) (n m : Named) : Prop where
  sf : .sf ∈ L ∨ n.sf = m.sf
  zf : .zf ∈ L ∨ n.zf = m.zf
  hf : .hf ∈ L ∨ n.hf = m.hf
  pv : .pv ∈ L ∨ n.pv = m.pv
  nf : .nf ∈ L ∨ n.nf = m.nf
  cf : .cf ∈ L ∨ n.cf = m.cf

/-! The flags that a computation passes on as they stand (R124, R125, R127, R511). -/

@[simp] theorem inc8_cf (v : Byte) (cf : Bool) : (inc8 v cf).2.cf = cf := rfl
@[simp] theorem dec8_cf (v : Byte) (cf : Bool) : (dec8 v cf).2.cf = cf := rfl
@[simp] theorem add16_sf (a b : Word) (old : Named) : (add16 a b old).2.sf = old.sf := rfl
@[simp] theorem add16_zf (a b : Word) (old : Named) : (add16 a b old).2.zf = old.zf := rfl
@[simp] theorem add16_pv (a b : Word) (old : Named) : (add16 a b old).2.pv = old.pv := rfl
@[simp] theorem shiftFlags_cf (res : Byte) (cout : Bool) : (shiftFlags res cout).cf = cout := rfl
@[simp] theorem daa_nf (a : Byte) (f : Flags) : (daa a f).2.nf = f.nf := rfl

@[simp] theorem State.setHalf_f (s : State) (p : IndexReg) (k : Half) (v : Byte) : (s.setHalf p k v).f = s.f := by
  cases k <;> rfl

namespace State.KeepsBut

variable {L : List Place} {s t u : State}

/-! ## One rule per shared operation -/

theorem refl (s : State) : s.KeepsBut L s := fun p _ => by cases p <;> rfl

theorem trans (h : s.KeepsBut L t) (k : t.KeepsBut L u) : s.KeepsBut L u :=
  fun p hp => Place.same_trans (h p hp) (k p hp)

/-- Fewer places may differ than in a longer list. -/
theorem mono {M : List Place} (h : s.KeepsBut M t) (hM : M ⊆ L) : s.KeepsBut L t :=
  fun p hp => h p fun hm => hp (hM hm)

theorem ite {c : Prop} [Decidable c] (ht : s.KeepsBut L t) (hu : s.KeepsBut L u) :
    s.KeepsBut L (if c then t else u) := by
  split
  · exact ht
  · exact hu

/-! `PC` and the draws are no places. -/

theorem goto {x : Word} (h : s.KeepsBut L t) : s.KeepsBut L (t.goto x) :=
  h.trans fun p _ => by cases p <;> rfl

theorem advance {n : Nat} (h : s.KeepsBut L t) : s.KeepsBut L (t.advance n) := h.goto

theorem repeatUnless {stop : Bool} (h : s.KeepsBut L t) : s.KeepsBut L (t.repeatUnless stop) := ite h.advance h

theorem drew {n : Nat} (h : s.KeepsBut L t) : s.KeepsBut L (t.drew n) :=
  h.trans fun p _ => by cases p <;> rfl

/-! Registers and memory. -/

theorem set {k : Reg8} {v : Byte} (h : s.KeepsBut L t) (hk : regPlace k ∈ L := by simp) :
    s.KeepsBut L (t.set k v) :=
  have other {p : Place} (hp : p ∉ L) {j : Reg8} (hj : regPlace j = p) : k ≠ j := fun e => hp (hj ▸ e ▸ hk)
  h.trans fun p hp => by
    cases p with
    | a | b | c | d | e | h | l => exact if_neg (other hp rfl)
    | _ => rfl

theorem setIndex {k : IndexReg} {v : Word} (h : s.KeepsBut L t) (hk : indexPlace k ∈ L := by simp) :
    s.KeepsBut L (t.setIndex k v) :=
  have other {p : Place} (hp : p ∉ L) {j : IndexReg} (hj : indexPlace j = p) : k ≠ j :=
    fun e => hp (hj ▸ e ▸ hk)
  h.trans fun p hp => by
    cases p with
    | ix | iy => exact if_neg (other hp rfl)
    | _ => rfl

theorem setHalf {k : IndexReg} {j : Half} {v : Byte} (h : s.KeepsBut L t) (hk : indexPlace k ∈ L := by simp) :
    s.KeepsBut L (t.setHalf k j v) := by
  cases j with
  | high => exact h.setIndex hk
  | low => exact h.setIndex hk

theorem write {x : Word} {v : Byte} (h : s.KeepsBut L t) (hL : .mem ∈ L := by simp) : s.KeepsBut L (t.write x v) :=
  h.trans fun p hp => by
    cases p with
    | mem => exact absurd hL hp
    | _ => rfl

theorem write16 {x v : Word} (h : s.KeepsBut L t) (hL : .mem ∈ L := by simp) : s.KeepsBut L (t.write16 x v) :=
  (h.write hL).write hL

theorem setBC {v : Word} (h : s.KeepsBut L t) (hL : [.b, .c] ⊆ L := by simp) : s.KeepsBut L (t.setBC v) :=
  h.trans fun p hp => by
    cases p with
    | b | c => exact absurd (hL (by simp)) hp
    | _ => rfl

theorem setDE {v : Word} (h : s.KeepsBut L t) (hL : [.d, .e] ⊆ L := by simp) : s.KeepsBut L (t.setDE v) :=
  h.trans fun p hp => by
    cases p with
    | d | e => exact absurd (hL (by simp)) hp
    | _ => rfl

theorem setHL {v : Word} (h : s.KeepsBut L t) (hL : [.h, .l] ⊆ L := by simp) : s.KeepsBut L (t.setHL v) :=
  h.trans fun p hp => by
    cases p with
    | h | l => exact absurd (hL (by simp)) hp
    | _ => rfl

theorem setAF {v : Word} (h : s.KeepsBut L t) (hL : .a :: Place.flags ⊆ L := by simp) : s.KeepsBut L (t.setAF v) :=
  h.trans fun p hp => by
    cases p with
    | a | sf | zf | f5 | hf | f3 | pv | nf | cf => exact absurd (hL (by simp [Place.flags])) hp
    | _ => rfl

theorem setSP {v : Word} (h : s.KeepsBut L t) (hL : .sp ∈ L := by simp) : s.KeepsBut L (t.setSP v) :=
  h.trans fun p hp => by
    cases p with
    | sp => exact absurd hL hp
    | _ => rfl

theorem setPair {q : Pair} {v : Word} (h : s.KeepsBut L t) (hL : pairPlaces q ⊆ L := by simp) :
    s.KeepsBut L (t.setPair q v) := by
  cases q with
  | bc => exact h.setBC hL
  | de => exact h.setDE hL
  | hl => exact h.setHL hL
  | sp => exact h.setSP (hL (.head _))

theorem setPairAF {q : PairAF} {v : Word} (h : s.KeepsBut L t) (hL : pairAFPlaces q ⊆ L := by simp) :
    s.KeepsBut L (t.setPairAF q v) := by
  cases q with
  | bc => exact h.setBC hL
  | de => exact h.setDE hL
  | hl => exact h.setHL hL
  | af => exact h.setAF hL

/-! The stack. -/

theorem popped (h : s.KeepsBut L t) (hL : .sp ∈ L := by simp) : s.KeepsBut L t.popped := h.setSP hL

theorem leave (h : s.KeepsBut L t) (hL : .sp ∈ L := by simp) : s.KeepsBut L t.leave := (h.popped hL).goto

theorem push {v : Word} (h : s.KeepsBut L t) (hL : [.sp, .mem] ⊆ L := by simp) : s.KeepsBut L (t.push v) :=
  ((h.setSP (hL (by simp))).write (hL (by simp))).write (hL (by simp))

theorem enter {ret target : Word} (h : s.KeepsBut L t) (hL : [.sp, .mem] ⊆ L := by simp) :
    s.KeepsBut L (t.enter ret target) := (h.push hL).goto

/-! Flags. -/

/-- A write of `F` draws bits 5 and 3 (R128); a named flag outside `L` is given the value it has. -/
theorem setFlags {n : Named} (h : s.KeepsBut L t)
    (hu : [.f5, .f3] ⊆ L := by simp [Place.flags, Place.flagsButCF])
    (hn : n.AgreesBut L t.f.named := by
      constructor <;> simp [Place.flags, Place.flagsButCF, Flags.named]) : s.KeepsBut L (t.setFlags n) :=
  h.trans fun p hp => by
    cases p with
    | sf => exact hn.sf.resolve_left hp
    | zf => exact hn.zf.resolve_left hp
    | hf => exact hn.hf.resolve_left hp
    | pv => exact hn.pv.resolve_left hp
    | nf => exact hn.nf.resolve_left hp
    | cf => exact hn.cf.resolve_left hp
    | f5 | f3 => exact absurd (hu (by simp)) hp
    | _ => rfl

theorem freeFlags (h : s.KeepsBut L t) (hL : Place.flags ⊆ L := by simp [Place.flags]) : s.KeepsBut L t.freeFlags :=
  h.trans fun p hp => by
    cases p with
    | sf | zf | f5 | hf | f3 | pv | nf | cf => exact absurd (hL (by simp [Place.flags])) hp
    | _ => rfl

theorem freeCarry (h : s.KeepsBut L t) (hL : [.f5, .f3, .cf] ⊆ L := by simp) : s.KeepsBut L t.freeCarry :=
  h.trans fun p hp => by
    cases p with
    | f5 | f3 | cf => exact absurd (hL (by simp)) hp
    | _ => rfl

/-! Events, at a port or a Next register. -/

theorem event {e : Event} (h : s.KeepsBut L t) (hL : .events ∈ L := by simp) : s.KeepsBut L (t.event e) :=
  h.trans fun p hp => by
    cases p with
    | events => exact absurd hL hp
    | _ => rfl

theorem portRead {x : Word} (h : s.KeepsBut L t) (hL : Place.io ⊆ L := by simp [Place.io]) :
    s.KeepsBut L (t.portRead x) :=
  h.trans fun p hp => by
    cases p with
    | portIn | events => exact absurd (hL (by simp [Place.io])) hp
    | _ => rfl

/-! The bits of the control unit. -/

theorem setI {v : Byte} (h : s.KeepsBut L t) (hL : .i ∈ L := by simp) : s.KeepsBut L { t with i := v } :=
  h.trans fun p hp => by
    cases p with
    | i => exact absurd hL hp
    | _ => rfl

theorem setR {v : Byte} (h : s.KeepsBut L t) (hL : .r ∈ L := by simp) : s.KeepsBut L { t with r := v } :=
  h.trans fun p hp => by
    cases p with
    | r => exact absurd hL hp
    | _ => rfl

theorem setIm {m : IntMode} (h : s.KeepsBut L t) (hL : .im ∈ L := by simp) : s.KeepsBut L { t with im := m } :=
  h.trans fun p hp => by
    cases p with
    | im => exact absurd hL hp
    | _ => rfl

theorem setHalted {b : Bool} (h : s.KeepsBut L t) (hL : .halted ∈ L := by simp) :
    s.KeepsBut L { t with halted := b } :=
  h.trans fun p hp => by
    cases p with
    | halted => exact absurd hL hp
    | _ => rfl

theorem setIff1 {b : Bool} (h : s.KeepsBut L t) (hL : .iff1 ∈ L := by simp) : s.KeepsBut L { t with iff1 := b } :=
  h.trans fun p hp => by
    cases p with
    | iff1 => exact absurd hL hp
    | _ => rfl

/-- Both flip-flops at once, as EI and an undelayed DI write them (R852, R853). -/
theorem setIffs {b : Bool} (h : s.KeepsBut L t) (hL : [.iff1, .iff2] ⊆ L := by simp) :
    s.KeepsBut L { t with iff1 := b, iff2 := b } :=
  h.trans fun p hp => by
    cases p with
    | iff1 | iff2 => exact absurd (hL (by simp)) hp
    | _ => rfl

theorem setIntInhibit {b : Bool} (h : s.KeepsBut L t) (hL : .intInhibit ∈ L := by simp) :
    s.KeepsBut L { t with intInhibit := b } :=
  h.trans fun p hp => by
    cases p with
    | intInhibit => exact absurd hL hp
    | _ => rfl

theorem setDiPending {b : Bool} (h : s.KeepsBut L t) (hL : .diPending ∈ L := by simp) :
    s.KeepsBut L { t with diPending := b } :=
  h.trans fun p hp => by
    cases p with
    | diPending => exact absurd hL hp
    | _ => rfl

/-! ## What several instructions are made of -/

/-- DI, at once or at the end of the next instruction (R852). -/
theorem disable (s : State) : s.KeepsBut [.iff1, .iff2, .diPending] s.disable :=
  .ite (.setDiPending (.refl s)) (.setIffs (.refl s))

theorem copyByte (s : State) (k : Word) :
    s.KeepsBut [.mem, .b, .c, .d, .e, .h, .l, .f5, .hf, .f3, .pv, .nf] (s.copyByte k) :=
  .setFlags (.setBC (.setDE (.setHL (.write (.refl s)))))

theorem compareByte (s : State) (k : Word) :
    s.KeepsBut [.b, .c, .h, .l, .sf, .zf, .f5, .hf, .f3, .pv, .nf] (s.compareByte k) :=
  .setFlags (.setBC (.setHL (.refl s)))

theorem maskedCopy (s : State) (k : Word) : s.KeepsBut [.mem, .b, .c, .d, .e, .h, .l] (s.maskedCopy k) :=
  .setBC (.setDE (.setHL (.ite (.write (.refl s)) (.refl s))))

theorem patternCopy (s : State) : s.KeepsBut [.mem, .b, .c, .d, .e] s.patternCopy :=
  .setBC (.setDE (.ite (.write (.refl s)) (.refl s)))

theorem countB {k : Word} (h : s.KeepsBut L t) (hL : [.b, .h, .l] ++ Place.flags ⊆ L := by simp [Place.flags]) :
    s.KeepsBut L (t.countB k) :=
  have counted : t.KeepsBut ([.b, .h, .l] ++ Place.flags) (t.countB k) :=
    .setFlags (.drew (.set (.setHL (.refl t))))
  h.trans (counted.mono hL)

theorem inputByte (s : State) (k : Word) :
    s.KeepsBut ([.mem, .b, .h, .l] ++ Place.io ++ Place.flags) (s.inputByte k) :=
  .countB (.write (.portRead (.refl s)))

theorem outputByte (s : State) (k : Word) : s.KeepsBut ([.events, .b, .h, .l] ++ Place.flags) (s.outputByte k) :=
  .countB (.event (.refl s))

/-- `EX AF,AF'` (R433). -/
theorem exchangeAF (s : State) : s.KeepsBut (.a :: .a' :: .f' :: Place.flags)
    { s with a := s.a', f := s.f', a' := s.a, f' := s.f } := fun p hp => by
  cases p with
  | a | a' | f' | sf | zf | f5 | hf | f3 | pv | nf | cf => exact absurd (by simp [Place.flags]) hp
  | _ => rfl

/-- `EXX` (R437). -/
theorem exchangeAll (s : State) : s.KeepsBut [.b, .c, .d, .e, .h, .l, .b', .c', .d', .e', .h', .l']
    { s with b := s.b', c := s.c', d := s.d', e := s.e', h := s.h', l := s.l'
             b' := s.b, c' := s.c, d' := s.d, e' := s.e, h' := s.h, l' := s.l } := fun p hp => by
  cases p with
  | b | c | d | e | h | l | b' | c' | d' | e' | h' | l' => exact absurd (by simp) hp
  | _ => rfl

end State.KeepsBut

/-! ## Every instruction -/

/-- Each instruction completes in a state that differs in the places of its list only. The arms sort the instructions
by the operations they are made of; each operation's rule asks that the places it writes are listed. -/
theorem exec_keepsBut (i : Instr) (s : State) : Runs i s (s.KeepsBut (touched i)) := by
  cases i with
  -- Registers, memory and `PC`.
  | ldRR | ldRN | ldRAtHL | ldRAtIXd | ldRAtIYd | ldAAtNN | ldRIXH | ldRIXL | ldRIYH | ldRIYL | ldAAtBC | ldAAtDE
  | mirrorA | swapnib | setae | resBR | setBR =>
    exact ⟨_, rfl, .advance (.set (.refl s))⟩
  | ldAtHLR | ldAtHLN | ldAtIXdR | ldAtIXdN | ldAtIYdR | ldAtIYdN | ldAtNNA | ldAtBCA | ldAtDEA | resBAtHL | setBAtHL
  | resBAtIXd | setBAtIXd | resBAtIYd | setBAtIYd =>
    exact ⟨_, rfl, .advance (.write (.refl s))⟩
  | resBAtIXdR | setBAtIXdR | resBAtIYdR | setBAtIYdR => exact ⟨_, rfl, .advance (.set (.write (.refl s)))⟩
  | ldIXHR | ldIXHN | ldIXLR | ldIXLN | ldIYHR | ldIYHN | ldIYLR | ldIYLN | ldIXHIXH | ldIXHIXL | ldIXLIXH
  | ldIXLIXL | ldIYHIYH | ldIYHIYL | ldIYLIYH | ldIYLIYL =>
    exact ⟨_, rfl, .advance (.setHalf (.refl s))⟩
  | ldRRNN | ldRRAtNN | incRR | decRR => exact ⟨_, rfl, .advance (.setPair (.refl s))⟩
  | ldHLAtNN | addHLNN | pixelad | pixeldn => exact ⟨_, rfl, .advance (.setHL (.refl s))⟩
  | addDENN | mulDE | bslaDEB | bsraDEB | bsrlDEB | bsrfDEB | brlcDEB =>
    exact ⟨_, rfl, .advance (.setDE (.refl s))⟩
  | addBCNN => exact ⟨_, rfl, .advance (.setBC (.refl s))⟩
  | ldIXNN | ldIXAtNN | ldIYNN | ldIYAtNN | incIX | decIX | incIY | decIY =>
    exact ⟨_, rfl, .advance (.setIndex (.refl s))⟩
  | ldSPHL | ldSPIX | ldSPIY => exact ⟨_, rfl, .advance (.setSP (.refl s))⟩
  | ldAtNNHL | ldAtNNRR | ldAtNNIX | ldAtNNIY => exact ⟨_, rfl, .advance (.write16 (.refl s))⟩
  | pushRR | pushNN | pushIX | pushIY => exact ⟨_, rfl, .advance (.push (.refl s))⟩
  | popRR => exact ⟨_, rfl, .advance (.setPairAF (.popped (.refl s)))⟩
  | popIX | popIY => exact ⟨_, rfl, .advance (.setIndex (.popped (.refl s)))⟩
  | exAFAFAlt => exact ⟨_, rfl, .advance (.exchangeAF s)⟩
  | exDEHL => exact ⟨_, rfl, .advance (.setHL (.setDE (.refl s)))⟩
  | exx => exact ⟨_, rfl, .advance (.exchangeAll s)⟩
  | exAtSPHL => exact ⟨_, rfl, .advance (.setHL (.write16 (.refl s)))⟩
  | exAtSPIX | exAtSPIY => exact ⟨_, rfl, .advance (.setIndex (.write16 (.refl s)))⟩
  | jpNN | jrE | jpAtHL | jpAtIX | jpAtIY => exact ⟨_, rfl, .goto (.refl s)⟩
  | jpCondNN | jrCondE => exact ⟨_, rfl, .ite (.goto (.refl s)) (.advance (.refl s))⟩
  | djnzE => exact ⟨_, rfl, .ite (.goto (.set (.refl s))) (.advance (.set (.refl s)))⟩
  | callNN | rstN => exact ⟨_, rfl, .enter (.refl s)⟩
  | callCondNN => exact ⟨_, rfl, .ite (.enter (.refl s)) (.advance (.refl s))⟩
  | ret | reti => exact ⟨_, rfl, .leave (.refl s)⟩
  | retCond => exact ⟨_, rfl, .ite (.leave (.refl s)) (.advance (.refl s))⟩
  | ldix | lddx => exact ⟨_, rfl, .advance (.maskedCopy s _)⟩
  | ldirx | lddrx => exact ⟨_, rfl, .repeatUnless (.maskedCopy s _)⟩
  | ldpirx => exact ⟨_, rfl, .repeatUnless (.patternCopy s)⟩
  | nop => exact ⟨_, rfl, .advance (.refl s)⟩
  -- The bits of the control unit.
  | ldIA => exact ⟨_, rfl, .advance (.setI (.refl s))⟩
  | ldRfshA => exact ⟨_, rfl, .advance (.setR (.refl s))⟩
  | halt => exact ⟨_, rfl, .advance (.setHalted (.refl s))⟩
  | di => exact ⟨_, rfl, .advance (.disable s)⟩
  | ei =>
    exact ⟨_, rfl, .advance (.setIntInhibit (t := { s with iff1 := true, iff2 := true }) (.setIffs (.refl s)))⟩
  | im0 | im1 | im2 => exact ⟨_, rfl, .advance (.setIm (.refl s))⟩
  | retn => exact ⟨_, rfl, .setIff1 (.leave (.refl s))⟩
  -- The flags that R131 gives an instruction, bits 5 and 3 with them (R128).
  | addAR | addAN | addAAtIXd | addAAtIYd | adcAR | adcAN | adcAAtIXd | adcAAtIYd | subR | subN | subAtIXd
  | subAtIYd | sbcAR | sbcAN | sbcAAtIXd | sbcAAtIYd | andR | andN | andAtIXd | andAtIYd | xorR | xorN | xorAtIXd
  | xorAtIYd | orR | orN | orAtIXd | orAtIYd | addAAtHL | addAIXH | addAIXL | addAIYH | addAIYL | adcAAtHL | adcAIXH
  | adcAIXL | adcAIYH | adcAIYL | subAtHL | subIXH | subIXL | subIYH | subIYL | sbcAAtHL | sbcAIXH | sbcAIXL
  | sbcAIYH | sbcAIYL | andAtHL | andIXH | andIXL | andIYH | andIYL | xorAtHL | xorIXH | xorIXL | xorIYH | xorIYL
  | orAtHL | orIXH | orIXL | orIYH | orIYL | daa | cpl | ldAI | rlca | rla | rrca | rra =>
    exact ⟨_, rfl, .advance (.setFlags (.set (.refl s)))⟩
  | cpR | cpN | cpAtIXd | cpAtIYd | cpAtHL | cpIXH | cpIXL | cpIYH | cpIYL | testN | scf =>
    exact ⟨_, rfl, .advance (.setFlags (.refl s))⟩
  | incR | decR | rlcR | rrcR | rlR | rrR | slaR | sraR | sliR | srlR =>
    exact ⟨_, rfl, .advance (.setFlags (.set (.refl s)))⟩
  | incAtIXd | incAtIYd | decAtIXd | decAtIYd | rlcAtIXd | rlcAtIYd | rrcAtIXd | rrcAtIYd | rlAtIXd | rlAtIYd
  | rrAtIXd | rrAtIYd | slaAtIXd | slaAtIYd | sraAtIXd | sraAtIYd | sliAtIXd | sliAtIYd | srlAtIXd | srlAtIYd
  | incAtHL | decAtHL | rlcAtHL | rrcAtHL | rlAtHL | rrAtHL | slaAtHL | sraAtHL | sliAtHL | srlAtHL =>
    exact ⟨_, rfl, .advance (.setFlags (.write (.refl s)))⟩
  | rlcAtIXdR | rlcAtIYdR | rrcAtIXdR | rrcAtIYdR | rlAtIXdR | rlAtIYdR | rrAtIXdR | rrAtIYdR | slaAtIXdR
  | slaAtIYdR | sraAtIXdR | sraAtIYdR | sliAtIXdR | sliAtIYdR | srlAtIXdR | srlAtIYdR | rld | rrd =>
    exact ⟨_, rfl, .advance (.setFlags (.set (.write (.refl s))))⟩
  | incIXH | incIXL | incIYH | incIYL | decIXH | decIXL | decIYH | decIYL =>
    exact ⟨_, rfl, .advance (.setFlags (.setHalf (.refl s)))⟩
  | addHLRR | adcHLRR | sbcHLRR => exact ⟨_, rfl, .advance (.setFlags (.setHL (.refl s)))⟩
  | addIXRR | addIYRR => exact ⟨_, rfl, .advance (.setFlags (.setIndex (.refl s)))⟩
  | addHLA => exact ⟨_, rfl, .advance (.freeCarry (.setHL (.refl s)))⟩
  | addDEA => exact ⟨_, rfl, .advance (.freeCarry (.setDE (.refl s)))⟩
  | addBCA => exact ⟨_, rfl, .advance (.freeCarry (.setBC (.refl s)))⟩
  | neg | ldARfsh => exact ⟨_, rfl, .advance (.setFlags (.set (.drew (.refl s))))⟩
  | ccf | bitBR | bitBAtHL | bitBAtIXd | bitBAtIYd => exact ⟨_, rfl, .advance (.setFlags (.drew (.refl s)))⟩
  | ldi | ldd => exact ⟨_, rfl, .advance (.copyByte s _)⟩
  | ldir | lddr => exact ⟨_, rfl, .repeatUnless (.copyByte s _)⟩
  | cpi | cpd => exact ⟨_, rfl, .advance (.compareByte s _)⟩
  | cpir | cpdr => exact ⟨_, rfl, .repeatUnless (.compareByte s _)⟩
  | ldws => exact ⟨_, rfl, .advance (.setFlags (.set (.set (.write (.refl s)))))⟩
  -- Ports and Next registers.
  | inAAtN => exact ⟨_, rfl, .advance (.set (.portRead (.refl s)))⟩
  | inRAtC => exact ⟨_, rfl, .advance (.setFlags (.set (.portRead (.refl s))))⟩
  | inAtC => exact ⟨_, rfl, .advance (.setFlags (.portRead (.refl s)))⟩
  | outAtNA | outAtCR | outAtCZero | nextregNN | nextregNA => exact ⟨_, rfl, .advance (.event (.refl s))⟩
  | jpAtC => exact ⟨_, rfl, .goto (.freeFlags (.portRead (.refl s)))⟩
  | ini | ind => exact ⟨_, rfl, .advance (.inputByte s _)⟩
  | inir | indr => exact ⟨_, rfl, .repeatUnless (.inputByte s _)⟩
  | outi | outd => exact ⟨_, rfl, .advance (.outputByte s _)⟩
  | otir | otdr => exact ⟨_, rfl, .repeatUnless (.outputByte s _)⟩
  | outinb => exact ⟨_, rfl, .advance (.freeFlags (.setHL (.event (.refl s))))⟩

/-- Settles O11: `exec` answers one state only, and that one keeps every place outside the list. -/
theorem registerFrame : Obligations.RegisterFrame := by
  intro i s t p ht hp
  obtain ⟨u, hu, kept⟩ := exec_keepsBut i s
  obtain rfl : u = t := Host.Outcome.next.inj (hu.symm.trans ht)
  exact kept p hp

end Sys2Proof.Machine
end

section
/-! PROOF. The flag computations of R121 to R127 in exact arithmetic: signed overflow for every width, the 8-bit and
16-bit sums and differences, parity, increment and decrement, rotates and shifts. -/

namespace Sys2Proof.Machine

/-! ## Signed overflow, for every width -/

/-- A two's-complement value by its upper half. -/
theorem toInt_eq_ite {w : Nat} (x : BitVec (w + 1)) :
    x.toInt = if 2 ^ w ≤ x.toNat then (x.toNat : Int) - 2 * (2 ^ w : Nat) else x.toNat := by
  rw [BitVec.toInt_eq_msb_cond, BitVec.msb_eq_decide]
  simp [pow_succ, mul_comm]

/-- A sum of two values and a carry reaches the modulus at most once. -/
theorem mod_two_mul {r m : Nat} (h : r < 2 * m) : r % m = if r < m then r else r - m := by
  split
  · exact Nat.mod_eq_of_lt ‹_›
  · rw [Nat.mod_eq_sub_mod (by omega), Nat.mod_eq_of_lt (by omega)]

/-- The sign rule of `PV` after an addition (R121, R126): the signed sum leaves the range. -/
theorem overflow_add {w : Nat} (x y res : BitVec (w + 1)) (c : Bool)
    (hres : res.toNat = (x.toNat + y.toNat + c.toNat) % 2 ^ (w + 1)) :
    (x.msb == y.msb && res.msb != x.msb) =
      decide (x.toInt + y.toInt + c.toNat < -(2 ^ w : Nat) ∨ x.toInt + y.toInt + c.toNat > (2 ^ w : Nat) - 1) := by
  have hx := x.isLt
  have hy := y.isLt
  have hc := Bool.toNat_le c
  rw [mod_two_mul (by omega)] at hres
  rw [toInt_eq_ite, toInt_eq_ite, BitVec.msb_eq_decide, BitVec.msb_eq_decide, BitVec.msb_eq_decide]
  simp only [pow_succ, Nat.add_sub_cancel] at *
  generalize 2 ^ w = half at *
  rw [Bool.eq_iff_iff]
  simp only [Bool.and_eq_true, beq_iff_eq, bne_iff_ne, decide_eq_decide, ne_eq, decide_eq_true_eq]
  split_ifs at hres ⊢ <;> omega

/-- The sign rule of `PV` after a subtraction (R122, R126): the signed difference leaves the range. -/
theorem overflow_sub {w : Nat} (x y res : BitVec (w + 1)) (c : Bool)
    (hres : (res.toNat : Int) = ((x.toNat : Int) - y.toNat - c.toNat) % (2 ^ (w + 1) : Nat)) :
    (x.msb != y.msb && res.msb != x.msb) =
      decide (x.toInt - y.toInt - c.toNat < -(2 ^ w : Nat) ∨ x.toInt - y.toInt - c.toNat > (2 ^ w : Nat) - 1) := by
  have hx := x.isLt
  have hy := y.isLt
  have hc := Bool.toNat_le c
  have hres' : res.toNat =
      if y.toNat + c.toNat ≤ x.toNat then x.toNat - (y.toNat + c.toNat)
      else x.toNat + 2 ^ (w + 1) - (y.toNat + c.toNat) := by
    split
    · rw [Int.emod_eq_of_lt (by omega) (by omega)] at hres
      omega
    · rw [← Int.add_emod_right, Int.emod_eq_of_lt (by omega) (by omega)] at hres
      omega
  rw [toInt_eq_ite, toInt_eq_ite, BitVec.msb_eq_decide, BitVec.msb_eq_decide, BitVec.msb_eq_decide]
  clear hres
  simp only [pow_succ, Nat.add_sub_cancel] at *
  generalize 2 ^ w = half at *
  rw [Bool.eq_iff_iff]
  simp only [Bool.and_eq_true, bne_iff_ne, decide_eq_decide, ne_eq, decide_eq_true_eq]
  split_ifs at hres' ⊢ <;> omega

/-! ## The flag computations, in exact arithmetic -/

theorem add8_toNat (a b : Byte) (cin : Bool) : (add8 a b cin).1.toNat = (a.toNat + b.toNat + cin.toNat) % 256 := rfl

theorem add8_flags (a b : Byte) (cin : Bool) : (add8 a b cin).2 =
    { sf := (add8 a b cin).1.msb, zf := decide ((add8 a b cin).1 = 0)
      hf := decide (a.toNat % 16 + b.toNat % 16 + cin.toNat > 15)
      pv := decide (a.toInt + b.toInt + cin.toNat < -128 ∨ a.toInt + b.toInt + cin.toNat > 127)
      nf := false, cf := decide (a.toNat + b.toNat + cin.toNat > 255) } :=
  congrArg (fun pv => Named.mk _ _ _ pv _ _) (overflow_add a b _ cin (add8_toNat a b cin))

theorem sub8_toNat (a b : Byte) (cin : Bool) :
    ((sub8 a b cin).1.toNat : Int) = ((a.toNat : Int) - b.toNat - cin.toNat) % 256 := by
  simp only [sub8, BitVec.toNat_ofInt]
  omega

theorem sub8_flags (a b : Byte) (cin : Bool) : (sub8 a b cin).2 =
    { sf := (sub8 a b cin).1.msb, zf := decide ((sub8 a b cin).1 = 0)
      hf := decide (a.toNat % 16 < b.toNat % 16 + cin.toNat)
      pv := decide (a.toInt - b.toInt - cin.toNat < -128 ∨ a.toInt - b.toInt - cin.toNat > 127)
      nf := true, cf := decide (a.toNat < b.toNat + cin.toNat) } := by
  have carry : decide ((a.toNat : Int) - b.toNat - cin.toNat < 0) = decide (a.toNat < b.toNat + cin.toNat) :=
    decide_eq_decide.2 (by omega)
  rw [← carry]
  exact congrArg (fun pv => Named.mk _ _ _ pv _ _) (overflow_sub a b _ cin (sub8_toNat a b cin))

theorem adc16_toNat (a b : Word) (cin : Bool) :
    (adc16 a b cin).1.toNat = (a.toNat + b.toNat + cin.toNat) % 65536 := rfl

theorem adc16_flags (a b : Word) (cin : Bool) : (adc16 a b cin).2 =
    { sf := (adc16 a b cin).1.msb, zf := decide ((adc16 a b cin).1 = 0)
      hf := decide (a.toNat % 4096 + b.toNat % 4096 + cin.toNat > 4095)
      pv := decide (a.toInt + b.toInt + cin.toNat < -32768 ∨ a.toInt + b.toInt + cin.toNat > 32767)
      nf := false, cf := decide (a.toNat + b.toNat + cin.toNat > 65535) } :=
  congrArg (fun pv => Named.mk _ _ _ pv _ _) (overflow_add a b _ cin (adc16_toNat a b cin))

theorem sbc16_toNat (a b : Word) (cin : Bool) :
    ((sbc16 a b cin).1.toNat : Int) = ((a.toNat : Int) - b.toNat - cin.toNat) % 65536 := by
  simp only [sbc16, BitVec.toNat_ofInt]
  omega

theorem sbc16_flags (a b : Word) (cin : Bool) : (sbc16 a b cin).2 =
    { sf := (sbc16 a b cin).1.msb, zf := decide ((sbc16 a b cin).1 = 0)
      hf := decide (a.toNat % 4096 < b.toNat % 4096 + cin.toNat)
      pv := decide (a.toInt - b.toInt - cin.toNat < -32768 ∨ a.toInt - b.toInt - cin.toNat > 32767)
      nf := true, cf := decide (a.toNat < b.toNat + cin.toNat) } := by
  have carry : decide ((a.toNat : Int) - b.toNat - cin.toNat < 0) = decide (a.toNat < b.toNat + cin.toNat) :=
    decide_eq_decide.2 (by omega)
  rw [← carry]
  exact congrArg (fun pv => Named.mk _ _ _ pv _ _) (overflow_sub a b _ cin (sbc16_toNat a b cin))

theorem add16_toNat (a b : Word) (old : Named) : (add16 a b old).1.toNat = (a.toNat + b.toNat) % 65536 := rfl

/-! ## Parity -/

/-- The number of 1 bits, bit by bit. -/
theorem ones_eq_sum (v : Byte) : ones v =
    (v.getLsbD 0).toNat + (v.getLsbD 1).toNat + (v.getLsbD 2).toNat + (v.getLsbD 3).toNat + (v.getLsbD 4).toNat
      + (v.getLsbD 5).toNat + (v.getLsbD 6).toNat + (v.getLsbD 7).toNat := by
  simp only [ones, List.range_succ, List.range_zero, List.countP_append, List.countP_singleton, Bool.toNat,
    Bool.cond_eq_ite, List.nil_append]

theorem toNat_xor (x y : Bool) : (x ^^ y).toNat = (x.toNat + y.toNat) % 2 := by
  cases x <;> cases y <;> rfl

/-- The parity of R120. -/
theorem parity_eq (v : Byte) : parity v = decide (ones v % 2 = 0) := by
  have odd : ∀ x : Bool, (!x) = decide (x.toNat % 2 = 0) := by decide
  rw [parity, odd, ones_eq_sum, decide_eq_decide]
  simp only [toNat_xor]
  omega

theorem logic_flags (res : Byte) (h : Bool) : logic res h =
    { sf := res.msb, zf := decide (res = 0), hf := h, pv := decide (ones res % 2 = 0), nf := false, cf := false } := by
  rw [← parity_eq]
  rfl

theorem shiftFlags_eq (res : Byte) (cout : Bool) : shiftFlags res cout =
    { sf := res.msb, zf := decide (res = 0), hf := false, pv := decide (ones res % 2 = 0), nf := false
      cf := cout } := by
  rw [← parity_eq]
  rfl

/-! ## Increment and decrement (R124) -/

theorem inc8_toNat (v : Byte) (cf : Bool) : (inc8 v cf).1.toNat = (v.toNat + 1) % 256 := rfl

theorem dec8_toNat (v : Byte) (cf : Bool) : (dec8 v cf).1.toNat = (v.toNat + 255) % 256 := by
  simp only [dec8, BitVec.toNat_sub]
  exact congrArg (· % 256) (Nat.add_comm _ _)

/-- The low nibble of a byte, as bits and as a number. -/
theorem lowNibble_beq (v n : Byte) : (v.toNat % 16 == n.toNat) = decide (v &&& 0x0F = n) := by
  have nibble : (v &&& 0x0F).toNat = v.toNat % 16 := Nat.and_two_pow_sub_one_eq_mod v.toNat 4
  rw [← nibble, beq_eq_decide, decide_eq_decide, BitVec.toNat_inj]

theorem inc8_flags (v : Byte) (cf : Bool) : (inc8 v cf).2 =
    { sf := (inc8 v cf).1.msb, zf := decide ((inc8 v cf).1 = 0), hf := decide (v &&& 0x0F = 0x0F)
      pv := decide (v = 0x7F), nf := false, cf := cf } := by
  rw [← lowNibble_beq]
  rfl

theorem dec8_flags (v : Byte) (cf : Bool) : (dec8 v cf).2 =
    { sf := (dec8 v cf).1.msb, zf := decide ((dec8 v cf).1 = 0), hf := decide (v &&& 0x0F = 0x00)
      pv := decide (v = 0x80), nf := true, cf := cf } := by
  rw [← lowNibble_beq]
  rfl

/-! ## Rotates and shifts (R605 to R612): a bit is shifted in at one end, and the bit at the other end goes to `CF` -/

/-- Shift left with the bit `b` coming in. -/
theorem shiftLeft_or_toNat (v b : Byte) (hb : b.toNat < 2) : (v <<< 1 ||| b).toNat = (2 * v.toNat + b.toNat) % 256 := by
  rw [BitVec.toNat_or, BitVec.toNat_shiftLeft, Nat.shiftLeft_eq]
  have even : v.toNat * 2 ^ 1 % 2 ^ 8 = 2 ^ 1 * (v.toNat % 128) := by omega
  rw [even, ← Nat.two_pow_add_eq_or_of_lt hb]
  omega

/-- Shift right with the lowest bit of `b` coming in. -/
theorem shiftRight_or_toNat (v b : Byte) : (v >>> 1 ||| b <<< 7).toNat = v.toNat / 2 + 128 * (b.toNat % 2) := by
  have hv := v.isLt
  rw [BitVec.toNat_or, BitVec.toNat_ushiftRight, BitVec.toNat_shiftLeft, Nat.shiftRight_eq_div_pow, Nat.shiftLeft_eq]
  have top : b.toNat * 2 ^ 7 % 2 ^ 8 = 2 ^ 7 * (b.toNat % 2) := by omega
  rw [top, Nat.lor_comm, ← Nat.two_pow_add_eq_or_of_lt (by omega)]
  omega

theorem bit7_eq (v : Byte) : v.getLsbD 7 = decide (v.toNat ≥ 128) := BitVec.msb_eq_decide v

theorem bit0_eq (v : Byte) : v.getLsbD 0 = decide (v.toNat % 2 = 1) := by
  rw [← BitVec.testBit_toNat, Nat.testBit_zero]

theorem toNat_ofBool_zeroExtend (c : Bool) : ((BitVec.ofBool c).zeroExtend 8).toNat = c.toNat := by
  cases c <;> rfl

theorem rlc_toNat (v : Byte) (cf : Bool) : (rlc v cf).1.toNat = (2 * v.toNat + v.toNat / 128) % 256 := by
  have hv := v.isLt
  have top : (v >>> 7).toNat = v.toNat / 128 := Nat.shiftRight_eq_div_pow _ _
  rw [← top]
  exact shiftLeft_or_toNat v _ (by omega)

theorem rl_toNat (v : Byte) (cf : Bool) : (rl v cf).1.toNat = (2 * v.toNat + cf.toNat) % 256 := by
  rw [← toNat_ofBool_zeroExtend]
  exact shiftLeft_or_toNat v _ (by rw [toNat_ofBool_zeroExtend]; exact cf.toNat_lt)

theorem sla_toNat (v : Byte) (cf : Bool) : (sla v cf).1.toNat = 2 * v.toNat % 256 :=
  (congrArg BitVec.toNat BitVec.or_zero.symm).trans (shiftLeft_or_toNat v 0 (by decide))

theorem sli_toNat (v : Byte) (cf : Bool) : (sli v cf).1.toNat = (2 * v.toNat + 1) % 256 :=
  shiftLeft_or_toNat v 1 (by decide)

theorem rrc_toNat (v : Byte) (cf : Bool) : (rrc v cf).1.toNat = v.toNat / 2 + 128 * (v.toNat % 2) :=
  shiftRight_or_toNat v v

theorem rr_toNat (v : Byte) (cf : Bool) : (rr v cf).1.toNat = v.toNat / 2 + 128 * cf.toNat := by
  have bit : cf.toNat % 2 = cf.toNat := Nat.mod_eq_of_lt cf.toNat_lt
  rw [← bit, ← toNat_ofBool_zeroExtend]
  exact shiftRight_or_toNat v _

theorem sra_toNat (v : Byte) (cf : Bool) : (sra v cf).1.toNat = v.toNat / 2 + 128 * (v.toNat / 128) := by
  have hv := v.isLt
  have top : (v >>> 7).toNat = v.toNat / 128 := Nat.shiftRight_eq_div_pow _ _
  have sign : v &&& 0x80 = (v >>> 7) <<< 7 := by
    apply BitVec.eq_of_toNat_eq
    calc
      (v &&& 0x80).toNat = v.toNat / 2 ^ 7 % 2 * 2 ^ 7 := by
        rw [← Nat.toNat_testBit]
        exact Nat.and_two_pow v.toNat 7
      _ = ((v >>> 7) <<< 7).toNat := by
        rw [BitVec.toNat_shiftLeft, Nat.shiftLeft_eq, top]
        omega
  have shifted := shiftRight_or_toNat v (v >>> 7)
  rw [← sign, top] at shifted
  exact shifted.trans (by omega)

theorem srl_toNat (v : Byte) (cf : Bool) : (srl v cf).1.toNat = v.toNat / 2 := Nat.shiftRight_eq_div_pow _ _

end Sys2Proof.Machine
end

section
/-! PROOF. What the arithmetic instructions leave (O27 to O30, O33, O34, O36, O37): for each family, one lemma from the
operation that its forms share to the statement's own terms; then each form is that operation on its operand. -/

namespace Sys2Proof.Machine

section
variable {s : State} {i : Instr} {n : Nat}

/-! ## Accumulator operations -/

theorem Adds.of_exec {v : Byte} {cin : Bool}
    (h : exec i s = .next ((s.accumulate (add8 s.a v cin)).advance n)) : Adds i s v cin :=
  ⟨_, h, add8_toNat s.a v cin, add8_flags s.a v cin⟩

theorem Subtracts.of_exec {v : Byte} {cin : Bool}
    (h : exec i s = .next ((s.accumulate (sub8 s.a v cin)).advance n)) : Subtracts i s v cin false :=
  ⟨_, h, _, sub8_toNat s.a v cin, rfl, sub8_flags s.a v cin⟩

/-- CP writes the flags of SUB alone (R508). -/
theorem Subtracts.of_exec_compare {v : Byte} (h : exec i s = .next ((s.cpA v).advance n)) :
    Subtracts i s v false true :=
  ⟨_, h, _, sub8_toNat s.a v false, rfl, sub8_flags s.a v false⟩

theorem runs_logic {res : Byte} {hf : Bool}
    (h : exec i s = .next ((s.accumulate (res, logic res hf)).advance n)) :
    Runs i s fun t => t.a = res ∧ LogicFlags t res hf :=
  ⟨_, h, rfl, logic_flags res hf⟩

/-! ## 16-bit sums and differences -/

theorem Sums.of_exec {x y : Word} {after : State → Word} {t : State} (h : exec i s = .next t)
    (hres : after t = (add16 x y s.f.named).1) (hflags : t.f.named = (add16 x y s.f.named).2) : Sums i s x y after :=
  ⟨t, h, hres ▸ add16_toNat x y s.f.named, hflags⟩

theorem State.hl_accumulateHL (s : State) (r : Word × Named) (n : Nat) : ((s.accumulateHL r).advance n).hl = r.1 :=
  State.hl_setHL s r.1

/-! ## Read, compute, write back -/

/-- The instruction applies `op` to the operand value `v` and `CF`: the result is where `after` says, and the named
flags are those of `op` (R509, R604). -/
def Modifies (op : Byte → Bool → Byte × Named) (i : Instr) (s : State) (v : Byte) (after : State → Byte → Prop) :
    Prop :=
  Runs i s fun t => after t (op v s.f.cf).1 ∧ t.f.named = (op v s.f.cf).2

section
variable {op : Byte → Bool → Byte × Named}

theorem Modifies.reg {k : Reg8} (h : exec i s = .next ((s.modifyReg op k).advance n)) :
    Modifies op i s (s.get k) fun t v => t.get k = v :=
  ⟨_, h, by simp [State.modifyReg], rfl⟩

theorem Modifies.half (p : IndexReg) (k : Half) (h : exec i s = .next ((s.modifyHalf op p k).advance n)) :
    Modifies op i s (s.half p k) fun t v => t.index p = (s.setHalf p k v).index p :=
  ⟨_, h, by cases p <;> rfl, rfl⟩

theorem Modifies.byteAt {x : Word} (hm : s.mem.wf = true) (h : exec i s = .next ((s.modifyAt op x).advance n)) :
    Modifies op i s (s.read x) fun t v => Landed s t x v :=
  ⟨_, h, fun y => State.read_write hm x y _, rfl⟩

theorem Modifies.byteAtCopy {x : Word} {k : Reg8} (hm : s.mem.wf = true)
    (h : exec i s = .next ((s.modifyAtCopy op x k).advance n)) :
    Modifies op i s (s.read x) fun t v => Landed s t x v ∧ t.get k = v :=
  ⟨_, h, ⟨fun y => State.read_write hm x y _, by simp [State.modifyAtCopy]⟩, rfl⟩

end

/-! ## INC and DEC -/

theorem Increments.of_modifies {v : Byte} {after : State → Byte → Prop} (h : Modifies inc8 i s v after) :
    Increments i s v after := by
  obtain ⟨t, ht, result, flags⟩ := h
  exact ⟨t, ht, _, inc8_toNat v s.f.cf, result, flags.trans (inc8_flags v s.f.cf)⟩

theorem Decrements.of_modifies {v : Byte} {after : State → Byte → Prop} (h : Modifies dec8 i s v after) :
    Decrements i s v after := by
  obtain ⟨t, ht, result, flags⟩ := h
  exact ⟨t, ht, _, dec8_toNat v s.f.cf, result, flags.trans (dec8_flags v s.f.cf)⟩

/-! ## Rotates and shifts -/

/-- With `CF` as given, `op` turns each operand into `res` of it, and its flags are those of R127 with `cout` of the
operand moved out. -/
structure ShiftsTo (op : Byte → Bool → Byte × Named) (cf : Bool) (res : Nat → Nat) (cout : Nat → Bool) : Prop where
  toNat_eq : ∀ v, (op v cf).1.toNat = res v.toNat
  flags_eq : ∀ v, (op v cf).2 = shiftFlags (op v cf).1 (cout v.toNat)

theorem rlc_shiftsTo (cf : Bool) : ShiftsTo rlc cf (fun v => (2 * v + v / 128) % 256) fun v => decide (v ≥ 128) :=
  ⟨fun v => rlc_toNat v cf, fun v => congrArg (shiftFlags _) (bit7_eq v)⟩

theorem rrc_shiftsTo (cf : Bool) : ShiftsTo rrc cf (fun v => v / 2 + 128 * (v % 2)) fun v => decide (v % 2 = 1) :=
  ⟨fun v => rrc_toNat v cf, fun v => congrArg (shiftFlags _) (bit0_eq v)⟩

theorem rl_shiftsTo (cf : Bool) : ShiftsTo rl cf (fun v => (2 * v + cf.toNat) % 256) fun v => decide (v ≥ 128) :=
  ⟨fun v => rl_toNat v cf, fun v => congrArg (shiftFlags _) (bit7_eq v)⟩

theorem rr_shiftsTo (cf : Bool) : ShiftsTo rr cf (fun v => v / 2 + 128 * cf.toNat) fun v => decide (v % 2 = 1) :=
  ⟨fun v => rr_toNat v cf, fun v => congrArg (shiftFlags _) (bit0_eq v)⟩

theorem sla_shiftsTo (cf : Bool) : ShiftsTo sla cf (fun v => 2 * v % 256) fun v => decide (v ≥ 128) :=
  ⟨fun v => sla_toNat v cf, fun v => congrArg (shiftFlags _) (bit7_eq v)⟩

theorem sra_shiftsTo (cf : Bool) : ShiftsTo sra cf (fun v => v / 2 + 128 * (v / 128)) fun v => decide (v % 2 = 1) :=
  ⟨fun v => sra_toNat v cf, fun v => congrArg (shiftFlags _) (bit0_eq v)⟩

theorem sli_shiftsTo (cf : Bool) : ShiftsTo sli cf (fun v => (2 * v + 1) % 256) fun v => decide (v ≥ 128) :=
  ⟨fun v => sli_toNat v cf, fun v => congrArg (shiftFlags _) (bit7_eq v)⟩

theorem srl_shiftsTo (cf : Bool) : ShiftsTo srl cf (fun v => v / 2) fun v => decide (v % 2 = 1) :=
  ⟨fun v => srl_toNat v cf, fun v => congrArg (shiftFlags _) (bit0_eq v)⟩

section
variable {op : Byte → Bool → Byte × Named} {res : Nat → Nat} {cout : Nat → Bool}

theorem Shifts.of_modifies {v : Byte} {after : State → Byte → Prop} (hop : ShiftsTo op s.f.cf res cout)
    (h : Modifies op i s v after) : Shifts i s (res v.toNat) (cout v.toNat) after := by
  obtain ⟨t, ht, result, flags⟩ := h
  exact ⟨t, ht, _, hop.toNat_eq v, result, flags.trans ((hop.flags_eq v).trans (shiftFlags_eq _ _))⟩

/-- The six forms are one operation on six operands. -/
theorem ShiftForms.of_exec {onR : Reg8 → Instr} {onHL : Instr} {onIX onIY : Byte → Instr}
    {copyIX copyIY : Byte → Reg8 → Instr} (hm : s.mem.wf = true) (hop : ShiftsTo op s.f.cf res cout)
    (hR : ∀ r, exec (onR r) s = .next ((s.modifyReg op r).advance 2))
    (hHL : exec onHL s = .next ((s.modifyAt op s.hl).advance 2))
    (hIX : ∀ d, exec (onIX d) s = .next ((s.modifyAt op (s.indexed .ix d)).advance 4))
    (hIY : ∀ d, exec (onIY d) s = .next ((s.modifyAt op (s.indexed .iy d)).advance 4))
    (hIXR : ∀ d r, exec (copyIX d r) s = .next ((s.modifyAtCopy op (s.indexed .ix d) r).advance 4))
    (hIYR : ∀ d r, exec (copyIY d r) s = .next ((s.modifyAtCopy op (s.indexed .iy d) r).advance 4)) :
    ShiftForms s onR onHL onIX onIY copyIX copyIY res cout :=
  ⟨fun r => .of_modifies hop (.reg (hR r)), .of_modifies hop (.byteAt hm hHL),
    fun d => .of_modifies hop (.byteAt hm (hIX d)), fun d => .of_modifies hop (.byteAt hm (hIY d)),
    fun d r => .of_modifies hop (.byteAtCopy hm (hIXR d r)), fun d r => .of_modifies hop (.byteAtCopy hm (hIYR d r))⟩

end

end

/-! ## The statements -/

/-- Settles O27: the nine operands of ADD, then those of ADC. -/
theorem addResults : Obligations.AddResults := fun _ =>
  ⟨fun _ => .of_exec rfl, fun _ => .of_exec rfl, .of_exec rfl, fun _ => .of_exec rfl, fun _ => .of_exec rfl,
    .of_exec rfl, .of_exec rfl, .of_exec rfl, .of_exec rfl,
    fun _ => .of_exec rfl, fun _ => .of_exec rfl, .of_exec rfl, fun _ => .of_exec rfl, fun _ => .of_exec rfl,
    .of_exec rfl, .of_exec rfl, .of_exec rfl, .of_exec rfl⟩

/-- Settles O28: the nine operands of SUB, of SBC, and of CP, which keeps `A`. -/
theorem subResults : Obligations.SubResults := fun _ =>
  ⟨fun _ => .of_exec rfl, fun _ => .of_exec rfl, .of_exec rfl, fun _ => .of_exec rfl, fun _ => .of_exec rfl,
    .of_exec rfl, .of_exec rfl, .of_exec rfl, .of_exec rfl,
    fun _ => .of_exec rfl, fun _ => .of_exec rfl, .of_exec rfl, fun _ => .of_exec rfl, fun _ => .of_exec rfl,
    .of_exec rfl, .of_exec rfl, .of_exec rfl, .of_exec rfl,
    fun _ => .of_exec_compare rfl, fun _ => .of_exec_compare rfl, .of_exec_compare rfl,
    fun _ => .of_exec_compare rfl, fun _ => .of_exec_compare rfl,
    .of_exec_compare rfl, .of_exec_compare rfl, .of_exec_compare rfl, .of_exec_compare rfl⟩

/-- Settles O29: the nine operands of AND, of XOR and of OR; TEST writes the flags of AND alone (R516). -/
theorem logicResults : Obligations.LogicResults := fun s =>
  ⟨fun _ => runs_logic rfl, fun _ => runs_logic rfl, runs_logic rfl, fun _ => runs_logic rfl,
    fun _ => runs_logic rfl, runs_logic rfl, runs_logic rfl, runs_logic rfl, runs_logic rfl,
    fun _ => runs_logic rfl, fun _ => runs_logic rfl, runs_logic rfl, fun _ => runs_logic rfl,
    fun _ => runs_logic rfl, runs_logic rfl, runs_logic rfl, runs_logic rfl, runs_logic rfl,
    fun _ => runs_logic rfl, fun _ => runs_logic rfl, runs_logic rfl, fun _ => runs_logic rfl,
    fun _ => runs_logic rfl, runs_logic rfl, runs_logic rfl, runs_logic rfl, runs_logic rfl,
    fun m => ⟨_, rfl, rfl, logic_flags (s.a &&& m) true⟩⟩

/-- Settles O33: the pair is written half by half, an index register whole. -/
theorem pairSums : Obligations.PairSums := fun _ =>
  ⟨fun _ => .of_exec rfl (State.hl_accumulateHL _ _ _) rfl,
    .of_exec rfl rfl rfl, .of_exec rfl rfl rfl, .of_exec rfl rfl rfl, .of_exec rfl rfl rfl,
    .of_exec rfl rfl rfl, .of_exec rfl rfl rfl, .of_exec rfl rfl rfl, .of_exec rfl rfl rfl⟩

/-- Settles O34. -/
theorem pairCarrySums : Obligations.PairCarrySums := by
  intro s q
  constructor
  · refine ⟨(s.accumulateHL (adc16 s.hl (s.pair q) s.f.cf)).advance 2, rfl, ?_⟩
    simp only [State.hl_accumulateHL]
    exact ⟨adc16_toNat _ _ _, adc16_flags _ _ _⟩
  · refine ⟨(s.accumulateHL (sbc16 s.hl (s.pair q) s.f.cf)).advance 2, rfl, ?_⟩
    simp only [State.hl_accumulateHL]
    exact ⟨sbc16_toNat _ _ _, sbc16_flags _ _ _⟩

/-- Settles O30: the eight operands of INC, then those of DEC. -/
theorem incDecResults : Obligations.IncDecResults := fun _ hm =>
  ⟨fun _ => .of_modifies (.reg rfl), .of_modifies (.byteAt hm rfl), fun _ => .of_modifies (.byteAt hm rfl),
    .of_modifies (.half .ix .high rfl), .of_modifies (.half .ix .low rfl), fun _ => .of_modifies (.byteAt hm rfl),
    .of_modifies (.half .iy .high rfl), .of_modifies (.half .iy .low rfl),
    fun _ => .of_modifies (.reg rfl), .of_modifies (.byteAt hm rfl), fun _ => .of_modifies (.byteAt hm rfl),
    .of_modifies (.half .ix .high rfl), .of_modifies (.half .ix .low rfl), fun _ => .of_modifies (.byteAt hm rfl),
    .of_modifies (.half .iy .high rfl), .of_modifies (.half .iy .low rfl)⟩

/-- Settles O36. -/
theorem rotateResults : Obligations.RotateResults := fun _ hm =>
  ⟨.of_exec hm (rlc_shiftsTo _) (fun _ => rfl) rfl (fun _ => rfl) (fun _ => rfl) (fun _ _ => rfl) (fun _ _ => rfl),
    .of_exec hm (rrc_shiftsTo _) (fun _ => rfl) rfl (fun _ => rfl) (fun _ => rfl) (fun _ _ => rfl) (fun _ _ => rfl),
    .of_exec hm (rl_shiftsTo _) (fun _ => rfl) rfl (fun _ => rfl) (fun _ => rfl) (fun _ _ => rfl) (fun _ _ => rfl),
    .of_exec hm (rr_shiftsTo _) (fun _ => rfl) rfl (fun _ => rfl) (fun _ => rfl) (fun _ _ => rfl) (fun _ _ => rfl)⟩

/-- Settles O37. -/
theorem shiftResults : Obligations.ShiftResults := fun _ hm =>
  ⟨.of_exec hm (sla_shiftsTo _) (fun _ => rfl) rfl (fun _ => rfl) (fun _ => rfl) (fun _ _ => rfl) (fun _ _ => rfl),
    .of_exec hm (sra_shiftsTo _) (fun _ => rfl) rfl (fun _ => rfl) (fun _ => rfl) (fun _ _ => rfl) (fun _ _ => rfl),
    .of_exec hm (sli_shiftsTo _) (fun _ => rfl) rfl (fun _ => rfl) (fun _ => rfl) (fun _ _ => rfl) (fun _ _ => rfl),
    .of_exec hm (srl_shiftsTo _) (fun _ => rfl) rfl (fun _ => rfl) (fun _ => rfl) (fun _ _ => rfl) (fun _ _ => rfl)⟩

end Sys2Proof.Machine
end

section
/-! PROOF. The state right after reset (O1, O9), parity (O14) and `F` as a byte (O16). -/

namespace Sys2Proof.Machine

/-- Settles O1: the fields of `State.reset`. -/
theorem resetValues : Obligations.ResetValues := ⟨rfl, rfl, rfl, rfl, rfl, rfl, rfl, rfl, rfl⟩

/-- Settles O9: memory lists nothing, and each interrupt bit is 0. -/
theorem invariantAtReset : Obligations.InvariantAtReset where
  mem_wf := State.reset_wf
  iff1_iff2 := nofun
  halted_settled := nofun
  pending_delay := nofun
  one_pending := nofun

/-- Settles O14. -/
theorem parityCountsOnes : Obligations.ParityCountsOnes := by
  intro v
  rw [parity_eq]
  exact ⟨of_decide_eq_true, fun h => Nat.mod_two_ne_zero.1 (of_decide_eq_false h)⟩

/-- Settles O16: reading the eight bits of the byte gives `F` back, and writing them gives the byte back. -/
theorem flagPositions : Obligations.FlagPositions :=
  ⟨fun f =>
    have back : Flags.ofByte f.toByte = f := Flags.ofByte_toByte f
    ⟨congrArg Flags.sf back, congrArg Flags.zf back, congrArg Flags.f5 back, congrArg Flags.hf back,
      congrArg Flags.f3 back, congrArg Flags.pv back, congrArg Flags.nf back, congrArg Flags.cf back⟩,
    Flags.toByte_ofByte⟩

end Sys2Proof.Machine
end

section
/-! PROOF. The memory frame of every instruction (O12): a relation that says where stores may have gone and that they
keep the canonical form, one rule per shared operation, then every instruction by the operations it is made of. -/

namespace Sys2Proof.Machine

/-- `exec` answers one state, so what holds of some state it answers holds of the state it answers. -/
theorem Runs.holds {i : Instr} {s t : State} {P : State → Prop} (h : Runs i s P) (ht : exec i s = .next t) : P t := by
  obtain ⟨u, hu, hP⟩ := h
  obtain rfl : u = t := Host.Outcome.next.inj (hu.symm.trans ht)
  exact hP

/-- From `s` to `t` no store has gone outside `A`, and a canonical memory has stayed canonical (R212, log 1). -/
structure State.StoresOnly (s : State) (A : List Word) (t : State) : Prop where
  read_eq : ∀ x, x ∉ A → t.read x = s.read x
  wf_kept : s.mem.wf = true → t.mem.wf = true

namespace State.StoresOnly

variable {A : List Word} {s t u : State}

/-! ## One rule per shared operation -/

theorem of_mem_eq (h : t.mem = s.mem) : s.StoresOnly A t :=
  ⟨fun x _ => congrArg (Memory.read · x.toNat) h, fun hw => h ▸ hw⟩

theorem refl (s : State) : s.StoresOnly A s := of_mem_eq rfl

theorem trans (h : s.StoresOnly A t) (k : t.StoresOnly A u) : s.StoresOnly A u :=
  ⟨fun x hx => (k.read_eq x hx).trans (h.read_eq x hx), fun hw => k.wf_kept (h.wf_kept hw)⟩

theorem ite {c : Prop} [Decidable c] (ht : s.StoresOnly A t) (hu : s.StoresOnly A u) :
    s.StoresOnly A (if c then t else u) := by
  split
  · exact ht
  · exact hu

/-! Stores: each address has to be listed. -/

theorem write {x : Word} {v : Byte} (h : s.StoresOnly A t) (hx : x ∈ A := by simp) : s.StoresOnly A (t.write x v) :=
  h.trans ⟨fun _ hy => State.read_write_ne t v fun e => hy (e ▸ hx), fun hw => State.write_wf hw x v⟩

theorem write16 {x v : Word} (h : s.StoresOnly A t) (hx : [x, x + 1] ⊆ A := by simp) :
    s.StoresOnly A (t.write16 x v) :=
  (h.write (hx (by simp))).write (hx (by simp))

theorem push {v : Word} (h : s.StoresOnly A t) (hx : [t.sp - 1, t.sp - 2] ⊆ A := by simp) :
    s.StoresOnly A (t.push v) :=
  have moved : s.StoresOnly A { t with sp := t.sp - 2 } := h.trans (of_mem_eq rfl)
  (moved.write (hx (by simp))).write (hx (by simp))

/-! Registers, flags and ports are no memory. -/

theorem goto {x : Word} (h : s.StoresOnly A t) : s.StoresOnly A (t.goto x) := h.trans (of_mem_eq rfl)

theorem advance {n : Nat} (h : s.StoresOnly A t) : s.StoresOnly A (t.advance n) := h.goto

theorem repeatUnless {stop : Bool} (h : s.StoresOnly A t) : s.StoresOnly A (t.repeatUnless stop) := ite h.advance h

theorem set {k : Reg8} {v : Byte} (h : s.StoresOnly A t) : s.StoresOnly A (t.set k v) := h.trans (of_mem_eq rfl)

theorem setBC {v : Word} (h : s.StoresOnly A t) : s.StoresOnly A (t.setBC v) := h.trans (of_mem_eq rfl)

theorem setDE {v : Word} (h : s.StoresOnly A t) : s.StoresOnly A (t.setDE v) := h.trans (of_mem_eq rfl)

theorem setHL {v : Word} (h : s.StoresOnly A t) : s.StoresOnly A (t.setHL v) := h.trans (of_mem_eq rfl)

theorem setIndex {p : IndexReg} {v : Word} (h : s.StoresOnly A t) : s.StoresOnly A (t.setIndex p v) :=
  h.trans (of_mem_eq rfl)

theorem setFlags {n : Named} (h : s.StoresOnly A t) : s.StoresOnly A (t.setFlags n) := h.trans (of_mem_eq rfl)

theorem portRead {x : Word} (h : s.StoresOnly A t) : s.StoresOnly A (t.portRead x) := h.trans (of_mem_eq rfl)

theorem countB {k : Word} (h : s.StoresOnly A t) : s.StoresOnly A (t.countB k) := h.trans (of_mem_eq rfl)

/-! What several instructions are made of. -/

theorem enter {ret target : Word} (h : s.StoresOnly A t) (hx : [t.sp - 1, t.sp - 2] ⊆ A := by simp) :
    s.StoresOnly A (t.enter ret target) := (h.push hx).goto

theorem copyByte {k : Word} (h : s.StoresOnly A t) (hx : t.de ∈ A := by simp) : s.StoresOnly A (t.copyByte k) :=
  (h.write hx).setHL.setDE.setBC.setFlags

theorem storeUnlessA {v : Byte} (h : s.StoresOnly A t) (hx : t.de ∈ A := by simp) :
    s.StoresOnly A (t.storeUnlessA v) := ite (h.write hx) h

theorem maskedCopy {k : Word} (h : s.StoresOnly A t) (hx : t.de ∈ A := by simp) : s.StoresOnly A (t.maskedCopy k) :=
  (h.storeUnlessA hx).setHL.setDE.setBC

theorem patternCopy (h : s.StoresOnly A t) (hx : t.de ∈ A := by simp) : s.StoresOnly A t.patternCopy :=
  (h.storeUnlessA hx).setDE.setBC

theorem inputByte {k : Word} (h : s.StoresOnly A t) (hx : t.hl ∈ A := by simp) : s.StoresOnly A (t.inputByte k) :=
  (h.portRead.write hx).countB

end State.StoresOnly

/-! ## Every instruction -/

/-- An instruction that does not list memory among what it touches (O11) stores nowhere. -/
theorem exec_storesOnly_of_mem_untouched {i : Instr} (h : .mem ∉ touched i) (s : State) (A : List Word) :
    Runs i s (s.StoresOnly A) := by
  obtain ⟨t, ht, kept⟩ := exec_keepsBut i s
  exact ⟨t, ht, .of_mem_eq (kept .mem h)⟩

@[simp] theorem mem_ne_regPlace (k : Reg8) : Place.mem ≠ regPlace k := by cases k <;> decide

@[simp] theorem mem_notMem_pairPlaces (q : Pair) : Place.mem ∉ pairPlaces q := by cases q <;> decide

@[simp] theorem mem_notMem_pairAFPlaces (q : PairAF) : Place.mem ∉ pairAFPlaces q := by cases q <;> decide

/-- Each instruction stores at the addresses of its list only. The arms sort the instructions that store by the operation
that does it; each rule asks that the address it stores to is listed. -/
theorem exec_storesOnly (i : Instr) (s : State) : Runs i s (s.StoresOnly (stores s i)) := by
  cases i with
  -- One byte.
  | ldAtHLR | ldAtHLN | ldAtIXdR | ldAtIXdN | ldAtIYdR | ldAtIYdN | ldAtNNA | ldAtBCA | ldAtDEA | resBAtHL | setBAtHL
  | resBAtIXd | setBAtIXd | resBAtIYd | setBAtIYd =>
    exact ⟨_, rfl, .advance (.write (.refl s))⟩
  | resBAtIXdR | setBAtIXdR | resBAtIYdR | setBAtIYdR => exact ⟨_, rfl, .advance (.set (.write (.refl s)))⟩
  | incAtIXd | incAtIYd | decAtIXd | decAtIYd | rlcAtIXd | rlcAtIYd | rrcAtIXd | rrcAtIYd | rlAtIXd | rlAtIYd
  | rrAtIXd | rrAtIYd | slaAtIXd | slaAtIYd | sraAtIXd | sraAtIYd | sliAtIXd | sliAtIYd | srlAtIXd | srlAtIYd
  | incAtHL | decAtHL | rlcAtHL | rrcAtHL | rlAtHL | rrAtHL | slaAtHL | sraAtHL | sliAtHL | srlAtHL =>
    exact ⟨_, rfl, .advance (.setFlags (.write (.refl s)))⟩
  | rlcAtIXdR | rlcAtIYdR | rrcAtIXdR | rrcAtIYdR | rlAtIXdR | rlAtIYdR | rrAtIXdR | rrAtIYdR | slaAtIXdR
  | slaAtIYdR | sraAtIXdR | sraAtIYdR | sliAtIXdR | sliAtIYdR | srlAtIXdR | srlAtIYdR | rld | rrd =>
    exact ⟨_, rfl, .advance (.setFlags (.set (.write (.refl s))))⟩
  -- Two bytes.
  | ldAtNNHL | ldAtNNRR | ldAtNNIX | ldAtNNIY => exact ⟨_, rfl, .advance (.write16 (.refl s))⟩
  | exAtSPHL => exact ⟨_, rfl, .advance (.setHL (.write16 (.refl s)))⟩
  | exAtSPIX | exAtSPIY => exact ⟨_, rfl, .advance (.setIndex (.write16 (.refl s)))⟩
  | pushRR | pushNN | pushIX | pushIY => exact ⟨_, rfl, .advance (.push (.refl s))⟩
  | callNN | rstN => exact ⟨_, rfl, .enter (.refl s)⟩
  | callCondNN => exact ⟨_, rfl, .ite (.enter (.refl s)) (.advance (.refl s))⟩
  -- The bodies of the block instructions.
  | ldi | ldd => exact ⟨_, rfl, .advance (.copyByte (.refl s))⟩
  | ldir | lddr => exact ⟨_, rfl, .repeatUnless (.copyByte (.refl s))⟩
  | ldix | lddx => exact ⟨_, rfl, .advance (.maskedCopy (.refl s))⟩
  | ldirx | lddrx => exact ⟨_, rfl, .repeatUnless (.maskedCopy (.refl s))⟩
  | ldpirx => exact ⟨_, rfl, .repeatUnless (.patternCopy (.refl s))⟩
  | ldws => exact ⟨_, rfl, .advance (.setFlags (.set (.set (.write (.refl s)))))⟩
  | ini | ind => exact ⟨_, rfl, .advance (.inputByte (.refl s))⟩
  | inir | indr => exact ⟨_, rfl, .repeatUnless (.inputByte (.refl s))⟩
  -- No store.
  | _ => exact exec_storesOnly_of_mem_untouched (by simp [Place.flags, Place.flagsButCF, Place.io]) s _

/-- Settles O12: `exec` answers one state only, and from there to it no store goes outside the list. -/
theorem memoryFrame : Obligations.MemoryFrame :=
  fun i s _ x ht hx => ((exec_storesOnly i s).holds ht).read_eq x hx

end Sys2Proof.Machine
end

section
/-! PROOF. The invariant over a step (O8): what an instruction and what a boundary can do to the interrupt bits, with the
canonical form from the memory frame (O12). -/

namespace Sys2Proof.Machine

namespace State.Inv

variable {s t : State}

/-- The invariant speaks of memory, the interrupt bits and the parameters only. -/
theorem of_control_eq (h : s.Inv) (mem_wf : t.mem.wf = true) (iff1 : t.iff1 = s.iff1) (iff2 : t.iff2 = s.iff2)
    (halted : t.halted = s.halted) (intInhibit : t.intInhibit = s.intInhibit)
    (diPending : t.diPending = s.diPending) (cfg : t.cfg = s.cfg) : t.Inv where
  mem_wf := mem_wf
  iff1_iff2 := by simpa only [iff1, iff2] using h.iff1_iff2
  halted_settled := by simpa only [halted, intInhibit, diPending] using h.halted_settled
  pending_delay := by simpa only [diPending, cfg] using h.pending_delay
  one_pending := by simpa only [intInhibit, diPending] using h.one_pending

/-- The state that reset and every interrupt leave: no INT enabled, not halted, nothing pending (R903, R908, R950). -/
theorem of_cleared (mem_wf : t.mem.wf = true) (iff1 : t.iff1 = false) (halted : t.halted = false)
    (intInhibit : t.intInhibit = false) (diPending : t.diPending = false) : t.Inv where
  mem_wf := mem_wf
  iff1_iff2 := by simp [iff1]
  halted_settled := by simp [halted]
  pending_delay := by simp [diPending]
  one_pending := by simp [intInhibit]

/-- Clearing both flip-flops keeps the order between them (R852). -/
theorem finish (h : s.Inv) (w : Bool) : (s.finish w).Inv :=
  { h with iff1_iff2 := by simpa +contextual using fun h1 _ => h.iff1_iff2 h1 }

theorem sampled (h : s.Inv) : s.sampled.Inv := { h with }

/-- Where an instruction begins, nothing is pending. -/
theorem begin (h : s.Inv) : s.begin.Inv :=
  { h.sampled with halted_settled := fun _ => ⟨rfl, rfl⟩, pending_delay := nofun, one_pending := nofun }

end State.Inv

/-! ## Instructions -/

/-- The places other than memory that the invariant is about. -/
def Place.inControl : Place → Bool
  | .iff1 | .iff2 | .halted | .intInhibit | .diPending | .cfg => true
  | _ => false

theorem regPlace_inControl (k : Reg8) : (regPlace k).inControl = false := by cases k <;> rfl

@[simp] theorem pairPlaces_any_inControl (q : Pair) : (pairPlaces q).any Place.inControl = false := by cases q <;> rfl

@[simp] theorem pairAFPlaces_any_inControl (q : PairAF) : (pairAFPlaces q).any Place.inControl = false := by
  cases q <;> rfl

@[simp] theorem Place.flags_any_inControl : Place.flags.any Place.inControl = false := rfl

@[simp] theorem Place.flagsButCF_any_inControl : Place.flagsButCF.any Place.inControl = false := rfl

@[simp] theorem Place.io_any_inControl : Place.io.any Place.inControl = false := rfl

/-- An instruction that lists none of these places among what it touches (O11) keeps the invariant. -/
theorem State.Inv.exec_of_control_untouched {i : Instr} {s : State} (hs : s.Inv)
    (h : (touched i).any Place.inControl = false) : Runs i s State.Inv := by
  obtain ⟨t, ht, kept⟩ := exec_keepsBut i s
  have same (p : Place) (hp : p.inControl = true) : p.same s t :=
    kept p fun hm => List.any_eq_false.1 h p hm hp
  exact ⟨t, ht, hs.of_control_eq (((exec_storesOnly i s).holds ht).wf_kept hs.mem_wf) (same .iff1 rfl)
    (same .iff2 rfl) (same .halted rfl) (same .intInhibit rfl) (same .diPending rfl) (same .cfg rfl)⟩

/-- DI clears the flip-flops, or under `di_delay` = 1 becomes pending (R852). -/
theorem State.Inv.disable {s : State} (hs : s.Inv) (hh : s.halted = false) (hi : s.intInhibit = false) :
    s.disable.Inv := by
  unfold State.disable
  split
  case isTrue delayed =>
    exact { hs with
      halted_settled := fun h => Bool.noConfusion (hh.symm.trans h)
      pending_delay := fun _ => delayed
      one_pending := fun h => Bool.noConfusion (hi.symm.trans h) }
  case isFalse => exact { hs with iff1_iff2 := nofun }

/-- Where the CPU is not halted and nothing is pending, every instruction keeps the invariant. HALT, DI, EI and RETN
write interrupt bits (R851, R852, R853, R856); the lists of all others name none. -/
theorem exec_inv (i : Instr) {s : State} (hs : s.Inv) (hh : s.halted = false) (hi : s.intInhibit = false)
    (hd : s.diPending = false) : Runs i s State.Inv := by
  cases i with
  | halt => exact ⟨_, rfl, { hs with halted_settled := fun _ => ⟨hi, hd⟩ }⟩
  | di => exact ⟨_, rfl, { hs.disable hh hi with }⟩
  | ei =>
    exact ⟨_, rfl, { hs with
      iff1_iff2 := fun _ => rfl
      halted_settled := fun h => Bool.noConfusion (hh.symm.trans h)
      one_pending := fun _ => hd }⟩
  | retn => exact ⟨_, rfl, { hs with iff1_iff2 := id }⟩
  | _ => exact hs.exec_of_control_untouched (by simp [↓regPlace_inControl, Place.inControl])

/-! ## The boundary, and one step -/

/-- Whatever a boundary takes clears the interrupt bits, or leaves the CPU halted as it was (R902, R907). -/
theorem State.Inv.boundary {s t : State} (hs : s.Inv) (h : s.boundary = some (.next t)) : t.Inv := by
  obtain rfl | rfl | ⟨target, rfl⟩ | rfl := State.boundary_next h
  case inl => exact .of_cleared hs.mem_wf rfl rfl rfl rfl
  case inr.inl => exact .of_cleared (State.push_wf hs.mem_wf _) rfl rfl rfl rfl
  case inr.inr.inl => exact .of_cleared (State.push_wf hs.mem_wf _) rfl rfl rfl rfl
  case inr.inr.inr => exact hs.sampled

/-- Settles O8: a step is a boundary's event or an instruction, which is fetched only where the CPU is not halted. -/
theorem invariantKept : Obligations.InvariantKept := by
  intro s t hs h
  obtain hb | ⟨i, u, hb, -, hu, rfl⟩ := step_next h
  · exact hs.boundary hb
  · obtain ⟨-, -, -, running⟩ := (State.boundary_eq_none s).1 hb
    exact ((exec_inv i hs.begin running rfl rfl).holds hu).finish s.diPending

end Sys2Proof.Machine
end

section
/-! PROOF. PUSH and then POP (O24). -/

namespace Sys2Proof.Machine

@[simp] theorem State.setPairAF_sp (s : State) (q : PairAF) (v : Word) : (s.setPairAF q v).sp = s.sp := by
  cases q <;> rfl

@[simp] theorem State.advance_pairAF (s : State) (n : Nat) (q : PairAF) : (s.advance n).pairAF q = s.pairAF q := by
  cases q <;> rfl

@[simp] theorem State.advance_top (s : State) (n : Nat) : (s.advance n).top = s.top := rfl

/-- Settles O24: what POP takes is what PUSH left on top, and `SP` moves by 2 and back. -/
theorem pushThenPop : Obligations.PushThenPop := by
  intro s q k hm hHigh hLow
  refine ⟨_, rfl, _, rfl, ?sp, ?pair⟩
  case sp =>
    simp only [State.advance_sp, State.setPairAF_sp, State.popped_sp, State.push_sp, BitVec.sub_add_cancel]
  case pair =>
    simp only [State.advance_pairAF, State.pairAF_setPairAF, State.advance_top]
    exact State.top_push hm _ hHigh hLow

end Sys2Proof.Machine
end

section
/-! PROOF. What the decoder and the encoder are made of: the fields of an opcode byte, the tables of R301 to R303, the
maps of R305 to R309 by their prefixes, and the bytes of the instructions that a table of operations selects. -/

namespace Sys2Proof

/-! ## Fields and opcode bytes -/

/-- A byte is its fields `xx yyy zzz`. -/
theorem byte_fields (b : Byte) :
    b.toNat = 64 * fieldX b + 8 * fieldY b + fieldZ b ∧ fieldX b < 4 ∧ fieldY b < 8 ∧ fieldZ b < 8 := by
  unfold fieldX fieldY fieldZ
  omega

theorem eq_ofNat {b : Byte} {n : Nat} (h : b.toNat = n) : b = BitVec.ofNat 8 n := by simp [← h]

theorem byte_eq {b c : Byte} (h : b.toNat = c.toNat) : c = b := BitVec.eq_of_toNat_eq h.symm

theorem opcode_eq {b : Byte} {base fields : Nat} (h : base + fields = b.toNat) : opcode base fields = b := by
  simp [opcode, h]

/-- An opcode byte has the fields it is made of. -/
theorem opcode_fields {base fields x y z : Nat} (h : base + fields = 64 * x + 8 * y + z) (hx : x < 4) (hy : y < 8)
    (hz : z < 8) :
    fieldX (opcode base fields) = x ∧ fieldY (opcode base fields) = y ∧ fieldZ (opcode base fields) = z := by
  have toNat : (opcode base fields).toNat = (base + fields) % 256 := BitVec.toNat_ofNat _ _
  unfold fieldX fieldY fieldZ
  omega

/-! ## Operands and the codes of their tables (R301 to R304) -/

theorem Reg8.code_of_ofCode {n : Nat} {r : Reg8} (h : Reg8.ofCode n = some r) : r.code = n := by
  unfold Reg8.ofCode at h
  split at h <;> cases h <;> rfl

theorem Reg8.ofCode_code (r : Reg8) : Reg8.ofCode r.code = some r := by cases r <;> rfl

theorem Reg8.code_lt (r : Reg8) : r.code < 8 := by cases r <;> decide

theorem Reg8.eq_six_of_ofCode {n : Nat} (hn : n < 8) (h : Reg8.ofCode n = none) : n = 6 := by
  revert h
  interval_cases n <;> decide

theorem Reg8.plain_of_code_ne {r : Reg8} (h : r.code ≠ 4) (l : r.code ≠ 5) : r.plain = true := by
  cases r with
  | h => exact absurd rfl h
  | l => exact absurd rfl l
  | _ => rfl

theorem Pair.code_ofCode {n : Nat} (h : n < 4) : (Pair.ofCode n).code = n := by interval_cases n <;> rfl

theorem Pair.notHL_ofCode {n : Nat} (h : n ≠ 2) : (Pair.ofCode n).notHL = true := by
  unfold Pair.ofCode
  split
  case h_3 => exact absurd rfl h
  all_goals rfl

theorem PairAF.code_ofCode {n : Nat} (h : n < 4) : (PairAF.ofCode n).code = n := by interval_cases n <;> rfl

theorem Cond.code_ofCode {n : Nat} (h : n < 8) : (Cond.ofCode n).code = n := by interval_cases n <;> rfl

theorem Cond.relative_ofCode {n : Nat} (h : n < 4) : (Cond.ofCode n).relative = true := by interval_cases n <;> rfl

theorem toNat_bitNumber {n : Nat} (h : n < 8) : (BitVec.ofNat 3 n).toNat = n := Nat.mod_eq_of_lt h

/-- A statement about a bit number, or the target of RST, has eight cases. -/
theorem bitNumber_cases {P : BitVec 3 → Prop} (b : BitVec 3) (b0 : P 0) (b1 : P 1) (b2 : P 2) (b3 : P 3) (b4 : P 4)
    (b5 : P 5) (b6 : P 6) (b7 : P 7) : P b := by
  have h : b = 0 ∨ b = 1 ∨ b = 2 ∨ b = 3 ∨ b = 4 ∨ b = 5 ∨ b = 6 ∨ b = 7 := by revert b; decide
  obtain rfl | rfl | rfl | rfl | rfl | rfl | rfl | rfl := h
  all_goals assumption

theorem withWord_lo_hi (nn : Word) (rest : List Byte) (k : Word → Instr) :
    withWord (lo nn :: hi nn :: rest) k = .instr (k nn) :=
  congrArg (fun w => Decoded.instr (k w)) (join_hi_lo nn)

/-! ## The maps of the decoder -/

/-- The unprefixed map (R305), by the part that the upper two bits of the opcode byte select. -/
def decodeUnprefixed (b : Byte) (rest : List Byte) : Decoded :=
  match fieldX b with
  | 0 => decodeOP0 (fieldY b) (fieldZ b) rest
  | 1 => decodeOP1 (fieldY b) (fieldZ b)
  | 2 => decodeOP2 (fieldY b) (fieldZ b)
  | _ => decodeOP3 (fieldY b) (fieldZ b) rest

theorem decode_unprefixed {b : Byte} {rest : List Byte} (hCB : b ≠ 0xCB) (hED : b ≠ 0xED) (hDD : b ≠ 0xDD)
    (hFD : b ≠ 0xFD) : decode (b :: rest) = decodeUnprefixed b rest := by
  simp only [decode, if_neg hCB, if_neg hED, if_neg hDD, if_neg hFD]
  rfl

theorem decode_CB (op : Byte) (rest : List Byte) : decode (0xCB :: op :: rest) = .instr (decodeCB op) := rfl

theorem decode_ED (op : Byte) (rest : List Byte) : decode (0xED :: op :: rest) = decodeED op rest := rfl

/-- The first byte that selects an index register (R308). -/
def IndexReg.prefixByte : IndexReg → Byte
  | .ix => 0xDD
  | .iy => 0xFD

theorem decode_prefixXY (p : IndexReg) (rest : List Byte) : decode (p.prefixByte :: rest) = decodePrefixXY p rest := by
  cases p <;> rfl

theorem decodePrefixXY_of_ne {p : IndexReg} {b : Byte} {rest : List Byte} (h : b ≠ 0xCB) :
    decodePrefixXY p (b :: rest) = decodeXY p b rest := by
  simp only [decodePrefixXY, if_neg h]

theorem decodePrefixXY_CB (p : IndexReg) (d op : Byte) (rest : List Byte) :
    decodePrefixXY p (0xCB :: d :: op :: rest) = decodeXYCB p d op := rfl

/-- A first byte is one of the prefixes or an opcode of the unprefixed map. -/
theorem firstByte_cases (b : Byte) :
    b = 0xCB ∨ b = 0xED ∨ (∃ p : IndexReg, b = p.prefixByte) ∨ (b ≠ 0xCB ∧ b ≠ 0xED ∧ b ≠ 0xDD ∧ b ≠ 0xFD) := by
  by_cases hDD : b = 0xDD
  · exact .inr (.inr (.inl ⟨.ix, hDD⟩))
  by_cases hFD : b = 0xFD
  · exact .inr (.inr (.inl ⟨.iy, hFD⟩))
  tauto

/-! ## Which bytes an instruction is -/

/-- `i` is an instruction that has an encoding, and these are its bytes. -/
def Instr.Codes (i : Instr) (bytes : List Byte) : Prop := WellFormed i = true ∧ encode i = bytes

theorem IndexReg.pick_codes {i j : Instr} {bytes : List Byte} (p : IndexReg) (hi : i.Codes (0xDD :: bytes))
    (hj : j.Codes (0xFD :: bytes)) : (p.pick i j).Codes (p.prefixByte :: bytes) := by
  cases p with
  | ix => exact hi
  | iy => exact hj

section
variable {op : Nat} (hop : op < 8)
include hop

theorem aluR_codes (r : Reg8) : (aluR op r).Codes [opcode (0x80 + 8 * op) r.code] := by
  interval_cases op <;> exact ⟨rfl, rfl⟩

theorem aluN_codes (n : Byte) : (aluN op n).Codes [opcode 0xC6 (8 * op), n] := by
  interval_cases op <;> exact ⟨rfl, rfl⟩

theorem aluAtHL_codes : (aluAtHL op).Codes [opcode 0x86 (8 * op)] := by
  interval_cases op <;> exact ⟨rfl, rfl⟩

theorem aluXYH_codes (p : IndexReg) :
    (p.pick (aluIXH op) (aluIYH op)).Codes [p.prefixByte, opcode 0x84 (8 * op)] := by
  interval_cases op <;> exact p.pick_codes ⟨rfl, rfl⟩ ⟨rfl, rfl⟩

theorem aluXYL_codes (p : IndexReg) :
    (p.pick (aluIXL op) (aluIYL op)).Codes [p.prefixByte, opcode 0x85 (8 * op)] := by
  interval_cases op <;> exact p.pick_codes ⟨rfl, rfl⟩ ⟨rfl, rfl⟩

theorem aluAtXYd_codes (p : IndexReg) (d : Byte) :
    (p.pick (aluAtIXd op d) (aluAtIYd op d)).Codes [p.prefixByte, opcode 0x86 (8 * op), d] := by
  interval_cases op <;> exact p.pick_codes ⟨rfl, rfl⟩ ⟨rfl, rfl⟩

theorem shiftR_codes (r : Reg8) : (shiftR op r).Codes [0xCB, opcode (8 * op) r.code] := by
  interval_cases op <;> exact ⟨rfl, rfl⟩

theorem shiftAtHL_codes : (shiftAtHL op).Codes [0xCB, opcode 0x06 (8 * op)] := by
  interval_cases op <;> exact ⟨rfl, rfl⟩

theorem shiftAtXYd_codes (p : IndexReg) (d : Byte) :
    (p.pick (shiftAtIXd op d) (shiftAtIYd op d)).Codes [p.prefixByte, 0xCB, d, opcode 0x06 (8 * op)] := by
  interval_cases op <;> exact p.pick_codes ⟨rfl, rfl⟩ ⟨rfl, rfl⟩

theorem shiftAtXYdR_codes (p : IndexReg) (d : Byte) (r : Reg8) :
    (p.pick (shiftAtIXdR op d r) (shiftAtIYdR op d r)).Codes [p.prefixByte, 0xCB, d, opcode (8 * op) r.code] := by
  interval_cases op <;> exact p.pick_codes ⟨rfl, rfl⟩ ⟨rfl, rfl⟩

end

end Sys2Proof
end

section
/-! PROOF. What encodings decode to (O4, O5). -/

namespace Sys2Proof

/-- Settles O4: the decoder computes the sixteen words. -/
theorem decodeWords : Obligations.DecodeWords :=
  ⟨rfl, rfl, rfl, rfl, rfl, rfl, rfl, rfl, rfl, rfl, rfl, rfl, rfl, rfl, rfl, rfl⟩

/-! ## BIT, RES and SET (R306, R309): the opcode byte has the bit number and the register in its fields -/

section
variable (b : BitVec 3) (r : Reg8) (p : IndexReg) (d : Byte)

/-- The fields of an opcode byte with a bit number and a register, above the operation `x`. -/
theorem bitReg_fields {x : Nat} (hx : x < 4) :
    fieldX (opcode (64 * x) (8 * b.toNat + r.code)) = x ∧
      BitVec.ofNat 3 (fieldY (opcode (64 * x) (8 * b.toNat + r.code))) = b ∧
      Reg8.ofCode (fieldZ (opcode (64 * x) (8 * b.toNat + r.code))) = some r := by
  obtain ⟨x_eq, y_eq, z_eq⟩ := opcode_fields (Nat.add_assoc _ _ _).symm hx b.isLt r.code_lt
  exact ⟨x_eq, by simp [y_eq], by rw [z_eq, Reg8.ofCode_code]⟩

/-- The fields of an opcode byte with a bit number and the memory operand. -/
theorem bitMem_fields {x : Nat} (hx : x < 4) :
    fieldX (opcode (64 * x + 6) (8 * b.toNat)) = x ∧
      BitVec.ofNat 3 (fieldY (opcode (64 * x + 6) (8 * b.toNat))) = b ∧
      Reg8.ofCode (fieldZ (opcode (64 * x + 6) (8 * b.toNat))) = none := by
  obtain ⟨x_eq, y_eq, z_eq⟩ := opcode_fields (base := 64 * x + 6) (fields := 8 * b.toNat) (z := 6) (by omega) hx b.isLt
    (by decide)
  exact ⟨x_eq, by simp [y_eq], by rw [z_eq]; rfl⟩

theorem decodeCB_bitBR : decodeCB (opcode 0x40 (8 * b.toNat + r.code)) = .bitBR b r := by
  obtain ⟨hx, hy, hz⟩ := bitReg_fields b r (x := 1) (by decide)
  simp only [decodeCB, hx, hy, hz]

theorem decodeCB_bitBAtHL : decodeCB (opcode 0x46 (8 * b.toNat)) = .bitBAtHL b := by
  obtain ⟨hx, hy, hz⟩ := bitMem_fields b (x := 1) (by decide)
  simp only [decodeCB, hx, hy, hz]

theorem decodeXYCB_bitBAtXYd :
    decodeXYCB p d (opcode 0x46 (8 * b.toNat)) = .instr (p.pick (.bitBAtIXd b d) (.bitBAtIYd b d)) := by
  obtain ⟨hx, hy, hz⟩ := bitMem_fields b (x := 1) (by decide)
  simp only [decodeXYCB, hx, hy, hz]

theorem decodeCB_resBR : decodeCB (opcode 0x80 (8 * b.toNat + r.code)) = .resBR b r := by
  obtain ⟨hx, hy, hz⟩ := bitReg_fields b r (x := 2) (by decide)
  simp only [decodeCB, hx, hy, hz]

theorem decodeCB_resBAtHL : decodeCB (opcode 0x86 (8 * b.toNat)) = .resBAtHL b := by
  obtain ⟨hx, hy, hz⟩ := bitMem_fields b (x := 2) (by decide)
  simp only [decodeCB, hx, hy, hz]

theorem decodeXYCB_resBAtXYd :
    decodeXYCB p d (opcode 0x86 (8 * b.toNat)) = .instr (p.pick (.resBAtIXd b d) (.resBAtIYd b d)) := by
  obtain ⟨hx, hy, hz⟩ := bitMem_fields b (x := 2) (by decide)
  simp only [decodeXYCB, hx, hy, hz]

theorem decodeXYCB_resBAtXYdR :
    decodeXYCB p d (opcode 0x80 (8 * b.toNat + r.code)) =
      .instr (p.pick (.resBAtIXdR b d r) (.resBAtIYdR b d r)) := by
  obtain ⟨hx, hy, hz⟩ := bitReg_fields b r (x := 2) (by decide)
  simp only [decodeXYCB, hx, hy, hz]

theorem decodeCB_setBR : decodeCB (opcode 0xC0 (8 * b.toNat + r.code)) = .setBR b r := by
  obtain ⟨hx, hy, hz⟩ := bitReg_fields b r (x := 3) (by decide)
  simp only [decodeCB, hx, hy, hz]

theorem decodeCB_setBAtHL : decodeCB (opcode 0xC6 (8 * b.toNat)) = .setBAtHL b := by
  obtain ⟨hx, hy, hz⟩ := bitMem_fields b (x := 3) (by decide)
  simp only [decodeCB, hx, hy, hz]

theorem decodeXYCB_setBAtXYd :
    decodeXYCB p d (opcode 0xC6 (8 * b.toNat)) = .instr (p.pick (.setBAtIXd b d) (.setBAtIYd b d)) := by
  obtain ⟨hx, hy, hz⟩ := bitMem_fields b (x := 3) (by decide)
  simp only [decodeXYCB, hx, hy, hz]

theorem decodeXYCB_setBAtXYdR :
    decodeXYCB p d (opcode 0xC0 (8 * b.toNat + r.code)) =
      .instr (p.pick (.setBAtIXdR b d r) (.setBAtIYdR b d r)) := by
  obtain ⟨hx, hy, hz⟩ := bitReg_fields b r (x := 3) (by decide)
  simp only [decodeXYCB, hx, hy, hz]

end

/-- Settles O5. Once the registers, the pair, the condition or the RST target in the opcode byte are known that byte is
a number, and the decoder, which looks no further, answers by computation; so the arms sort the instructions by the
operands in their opcode byte. Where a 16-bit operand follows, its two bytes give it back. -/
theorem decodeEncode : Obligations.DecodeEncode := by
  intro i rest wf
  cases i with
  | ldRR t s => cases t <;> cases s <;> rfl
  | ldRIXH r | ldIXHR r | ldRIXL r | ldIXLR r | ldRIYH r | ldIYHR r | ldRIYL r | ldIYLR r =>
    cases r with
    | h | l => exact Bool.noConfusion wf
    | _ => rfl
  | ldRN r _ | ldRAtHL r | ldAtHLR r | ldRAtIXd r _ | ldAtIXdR _ r | ldRAtIYd r _ | ldAtIYdR _ r | addAR r | adcAR r
  | subR r | sbcAR r | andR r | xorR r | orR r | cpR r | incR r | decR r | rlcR r | rlcAtIXdR _ r | rlcAtIYdR _ r
  | rrcR r | rrcAtIXdR _ r | rrcAtIYdR _ r | rlR r | rlAtIXdR _ r | rlAtIYdR _ r | rrR r | rrAtIXdR _ r
  | rrAtIYdR _ r | slaR r | slaAtIXdR _ r | slaAtIYdR _ r | sraR r | sraAtIXdR _ r | sraAtIYdR _ r | sliR r
  | sliAtIXdR _ r | sliAtIYdR _ r | srlR r | srlAtIXdR _ r | srlAtIYdR _ r | inRAtC r | outAtCR r => cases r <;> rfl
  | pushRR q | popRR q | addHLRR q | adcHLRR q | sbcHLRR q | incRR q | decRR q | addIXRR q | addIYRR q =>
    cases q <;> rfl
  | retCond cc => cases cc <;> rfl
  | jrCondE cc e =>
    cases cc with
    | po | pe | p | m => exact Bool.noConfusion wf
    | _ => rfl
  | rstN b => cases b using bitNumber_cases <;> rfl
  | bitBR b r => exact congrArg Decoded.instr (decodeCB_bitBR b r)
  | bitBAtHL b => exact congrArg Decoded.instr (decodeCB_bitBAtHL b)
  | bitBAtIXd b d => exact decodeXYCB_bitBAtXYd b .ix d
  | bitBAtIYd b d => exact decodeXYCB_bitBAtXYd b .iy d
  | resBR b r => exact congrArg Decoded.instr (decodeCB_resBR b r)
  | resBAtHL b => exact congrArg Decoded.instr (decodeCB_resBAtHL b)
  | resBAtIXd b d => exact decodeXYCB_resBAtXYd b .ix d
  | resBAtIYd b d => exact decodeXYCB_resBAtXYd b .iy d
  | resBAtIXdR b d r => exact decodeXYCB_resBAtXYdR b r .ix d
  | resBAtIYdR b d r => exact decodeXYCB_resBAtXYdR b r .iy d
  | setBR b r => exact congrArg Decoded.instr (decodeCB_setBR b r)
  | setBAtHL b => exact congrArg Decoded.instr (decodeCB_setBAtHL b)
  | setBAtIXd b d => exact decodeXYCB_setBAtXYd b .ix d
  | setBAtIYd b d => exact decodeXYCB_setBAtXYd b .iy d
  | setBAtIXdR b d r => exact decodeXYCB_setBAtXYdR b r .ix d
  | setBAtIYdR b d r => exact decodeXYCB_setBAtXYdR b r .iy d
  | ldAAtNN nn | ldAtNNA nn | ldHLAtNN nn | ldAtNNHL nn | ldIXNN nn | ldIXAtNN nn | ldAtNNIX nn | ldIYNN nn
  | ldIYAtNN nn | ldAtNNIY nn | addHLNN nn | addDENN nn | addBCNN nn | jpNN nn | callNN nn =>
    exact withWord_lo_hi nn rest _
  | ldRRNN q nn => cases q <;> exact withWord_lo_hi nn rest _
  | ldRRAtNN q nn | ldAtNNRR q nn =>
    cases q with
    | hl => exact Bool.noConfusion wf
    | _ => exact withWord_lo_hi nn rest _
  | jpCondNN cc nn | callCondNN cc nn => cases cc <;> exact withWord_lo_hi nn rest _
  | pushNN nn => exact congrArg (fun w => Decoded.instr (.pushNN w)) (join_hi_lo nn)
  | _ => rfl

end Sys2Proof
end

section
/-! PROOF. Whatever decodes is well-formed, and the bytes read are its encoding (O6): a predicate on what the decoder
answers, one rule per number of operand bytes, then each map by the rows of its definition. -/

namespace Sys2Proof

/-! ## Whatever is read is an instruction's bytes -/

/-- If this is an instruction, it is a well-formed one, and its bytes stand at the front of the bytes `pre`, the opcode
byte `b` and the bytes `rest` after it. -/
def Decoded.Reads (pre : List Byte) (b : Byte) (rest : List Byte) : Decoded → Prop
  | .instr i => WellFormed i = true ∧ encode i <+: pre ++ b :: rest
  | .rejected _ => True

namespace Decoded.Reads

variable {pre rest : List Byte} {b c : Byte}

theorem instr {i : Instr} (h : i.Codes (pre ++ [c])) (hc : c = b) : (Decoded.instr i).Reads pre b rest := by
  obtain ⟨wf, bytes⟩ := h
  exact ⟨wf, rest, by simp [bytes, hc]⟩

theorem withByte {k : Byte → Instr} (h : ∀ n, (k n).Codes (pre ++ [c, n])) (hc : c = b) :
    (withByte rest k).Reads pre b rest := by
  match rest with
  | [] => trivial
  | n :: rest =>
    obtain ⟨wf, bytes⟩ := h n
    exact ⟨wf, rest, by simp [bytes, hc]⟩

theorem withBytes {k : Byte → Byte → Instr} (h : ∀ m n, (k m n).Codes (pre ++ [c, m, n])) (hc : c = b) :
    (withBytes rest k).Reads pre b rest := by
  match rest with
  | [] | [_] => trivial
  | m :: n :: rest =>
    obtain ⟨wf, bytes⟩ := h m n
    exact ⟨wf, rest, by simp [bytes, hc]⟩

theorem withWord {k : Word → Instr} (h : ∀ nn, (k nn).Codes (pre ++ [c, lo nn, hi nn])) (hc : c = b) :
    (withWord rest k).Reads pre b rest :=
  withBytes (fun l u => by simpa using h (join u l)) hc

end Decoded.Reads

/-! ## Each map, row by row

The cases `h_1`, `h_2`, … are the rows of the map's `match` in their order. In each, the opcode byte that the encoder
writes has the fields by which the row was chosen. -/

section
variable {b : Byte} {y z : Nat} (hy : y < 8) (hz : z < 8) (rest : List Byte)
include hy hz

theorem decodeOP0_reads (hb : b.toNat = 8 * y + z) : (decodeOP0 y z rest).Reads [] b rest := by
  unfold decodeOP0
  split
  case h_1 =>
    split
    case h_1 | h_2 => exact .instr ⟨rfl, rfl⟩ (byte_eq hb)
    case h_3 | h_4 => exact .withByte (fun _ => ⟨rfl, rfl⟩) (byte_eq hb)
    case h_5 =>
      have four_le : 4 ≤ y := by grind
      have code := Cond.code_ofCode (n := y - 4) (by omega)
      exact .withByte (fun _ => ⟨Cond.relative_ofCode (by omega), rfl⟩) (opcode_eq (by omega))
  case h_2 =>
    have code := Pair.code_ofCode (n := y / 2) (by omega)
    split
    next => exact .withWord (fun _ => ⟨rfl, rfl⟩) (opcode_eq (by omega))
    next => exact .instr ⟨rfl, rfl⟩ (opcode_eq (by grind))
  case h_3 =>
    split
    case h_1 | h_2 | h_3 | h_4 => exact .instr ⟨rfl, rfl⟩ (byte_eq hb)
    case h_5 | h_6 | h_7 => exact .withWord (fun _ => ⟨rfl, rfl⟩) (byte_eq hb)
    case h_8 =>
      obtain rfl : y = 7 := by grind
      exact .withWord (fun _ => ⟨rfl, rfl⟩) (byte_eq hb)
  case h_4 =>
    have code := Pair.code_ofCode (n := y / 2) (by omega)
    split
    next => exact .instr ⟨rfl, rfl⟩ (opcode_eq (by omega))
    next => exact .instr ⟨rfl, rfl⟩ (opcode_eq (by grind))
  case h_5 | h_6 =>
    split
    next t ht =>
      have code := Reg8.code_of_ofCode ht
      exact .instr ⟨rfl, rfl⟩ (opcode_eq (by omega))
    next ht =>
      obtain rfl := Reg8.eq_six_of_ofCode hy ht
      exact .instr ⟨rfl, rfl⟩ (byte_eq hb)
  case h_7 =>
    split
    next t ht =>
      have code := Reg8.code_of_ofCode ht
      exact .withByte (fun _ => ⟨rfl, rfl⟩) (opcode_eq (by omega))
    next ht =>
      obtain rfl := Reg8.eq_six_of_ofCode hy ht
      exact .withByte (fun _ => ⟨rfl, rfl⟩) (byte_eq hb)
  case h_8 =>
    obtain rfl : z = 7 := by grind
    split
    case h_8 =>
      obtain rfl : y = 7 := by grind
      exact .instr ⟨rfl, rfl⟩ (byte_eq hb)
    all_goals exact .instr ⟨rfl, rfl⟩ (byte_eq hb)

theorem decodeOP1_reads (hb : b.toNat = 64 + 8 * y + z) : (decodeOP1 y z).Reads [] b rest := by
  unfold decodeOP1
  split
  next t s ht hs =>
    have target := Reg8.code_of_ofCode ht
    have source := Reg8.code_of_ofCode hs
    exact .instr ⟨rfl, rfl⟩ (opcode_eq (by omega))
  next t ht hs =>
    have target := Reg8.code_of_ofCode ht
    obtain rfl := Reg8.eq_six_of_ofCode hz hs
    exact .instr ⟨rfl, rfl⟩ (opcode_eq (by omega))
  next s ht hs =>
    obtain rfl := Reg8.eq_six_of_ofCode hy ht
    have source := Reg8.code_of_ofCode hs
    exact .instr ⟨rfl, rfl⟩ (opcode_eq (by omega))
  next ht hs =>
    obtain rfl := Reg8.eq_six_of_ofCode hy ht
    obtain rfl := Reg8.eq_six_of_ofCode hz hs
    exact .instr ⟨rfl, rfl⟩ (byte_eq hb)

theorem decodeOP2_reads (hb : b.toNat = 128 + 8 * y + z) : (decodeOP2 y z).Reads [] b rest := by
  unfold decodeOP2
  split
  next s hs =>
    have code := Reg8.code_of_ofCode hs
    exact .instr (aluR_codes hy s) (opcode_eq (by omega))
  next hs =>
    obtain rfl := Reg8.eq_six_of_ofCode hz hs
    exact .instr (aluAtHL_codes hy) (opcode_eq (by omega))

/-- The four prefixes lie in this part of the map, and `decode` takes them first. -/
theorem decodeOP3_reads (hb : b.toNat = 192 + 8 * y + z) (hCB : b.toNat ≠ 0xCB) (hDD : b.toNat ≠ 0xDD)
    (hED : b.toNat ≠ 0xED) (hFD : b.toNat ≠ 0xFD) : (decodeOP3 y z rest).Reads [] b rest := by
  have condCode := Cond.code_ofCode hy
  have pairCode := PairAF.code_ofCode (n := y / 2) (by omega)
  unfold decodeOP3
  split
  case h_1 => exact .instr ⟨rfl, rfl⟩ (opcode_eq (by omega))
  case h_2 =>
    split
    case h_5 =>
      have even : y % 2 = 0 := by grind
      exact .instr ⟨rfl, rfl⟩ (opcode_eq (by omega))
    all_goals exact .instr ⟨rfl, rfl⟩ (byte_eq hb)
  case h_3 => exact .withWord (fun _ => ⟨rfl, rfl⟩) (opcode_eq (by omega))
  case h_4 =>
    split
    case h_1 => exact .withWord (fun _ => ⟨rfl, rfl⟩) (byte_eq hb)
    case h_2 | h_3 => exact .withByte (fun _ => ⟨rfl, rfl⟩) (byte_eq hb)
    case h_4 | h_5 | h_6 => exact .instr ⟨rfl, rfl⟩ (byte_eq hb)
    case h_7 =>
      obtain rfl : y = 7 := by grind
      exact .instr ⟨rfl, rfl⟩ (byte_eq hb)
  case h_5 => exact .withWord (fun _ => ⟨rfl, rfl⟩) (opcode_eq (by omega))
  case h_6 =>
    split
    case h_1 => exact .withWord (fun _ => ⟨rfl, rfl⟩) (byte_eq hb)
    case h_2 =>
      have even : y % 2 = 0 := by grind
      exact .instr ⟨rfl, rfl⟩ (opcode_eq (by omega))
  case h_7 => exact .withByte (aluN_codes hy) (opcode_eq (by omega))
  case h_8 =>
    obtain rfl : z = 7 := by grind
    have target := toNat_bitNumber hy
    exact .instr ⟨rfl, rfl⟩ (opcode_eq (by omega))

theorem decodeED1_reads (hb : b.toNat = 64 + 8 * y + z) : (decodeED1 b y z rest).Reads [0xED] b rest := by
  unfold decodeED1
  split
  case h_1 | h_2 =>
    split
    next t ht =>
      have code := Reg8.code_of_ofCode ht
      exact .instr ⟨rfl, rfl⟩ (opcode_eq (by omega))
    next ht =>
      obtain rfl := Reg8.eq_six_of_ofCode hy ht
      exact .instr ⟨rfl, rfl⟩ (byte_eq hb)
  case h_3 =>
    have code := Pair.code_ofCode (n := y / 2) (by omega)
    split
    next => exact .instr ⟨rfl, rfl⟩ (opcode_eq (by omega))
    next => exact .instr ⟨rfl, rfl⟩ (opcode_eq (by grind))
  case h_6 =>
    have code := Pair.code_ofCode (n := y / 2) (by omega)
    have notHL := Pair.notHL_ofCode (n := y / 2) (by grind)
    split
    next => exact .withWord (fun _ => ⟨notHL, rfl⟩) (opcode_eq (by omega))
    next => exact .withWord (fun _ => ⟨notHL, rfl⟩) (opcode_eq (by grind))
  case h_4 | h_5 | h_19 => trivial
  all_goals exact .instr ⟨rfl, rfl⟩ (byte_eq hb)

theorem decodeXY1_reads (p : IndexReg) (hb : b.toNat = 64 + 8 * y + z) :
    (decodeXY1 p b y z rest).Reads [p.prefixByte] b rest := by
  unfold decodeXY1
  split
  case h_1 | h_12 => trivial
  case h_2 | h_3 =>
    split
    next r hr =>
      have code := Reg8.code_of_ofCode hr
      exact .withByte (fun _ => p.pick_codes ⟨rfl, rfl⟩ ⟨rfl, rfl⟩) (opcode_eq (by omega))
    next => trivial
  case h_4 | h_5 | h_6 | h_7 => exact .instr (p.pick_codes ⟨rfl, rfl⟩ ⟨rfl, rfl⟩) (byte_eq hb)
  case h_8 | h_9 | h_10 | h_11 =>
    split
    next r hr =>
      have code := Reg8.code_of_ofCode hr
      have plain : r.plain = true := Reg8.plain_of_code_ne (by grind) (by grind)
      exact .instr (p.pick_codes ⟨plain, rfl⟩ ⟨plain, rfl⟩) (opcode_eq (by omega))
    next => trivial

end

section
variable (b : Byte) (rest : List Byte)

theorem decodeCB_reads : (Decoded.instr (decodeCB b)).Reads [0xCB] b rest := by
  obtain ⟨fields, x_lt, y_lt, z_lt⟩ := byte_fields b
  have bit := toNat_bitNumber y_lt
  unfold decodeCB
  dsimp only
  split
  case h_1 s _ hs =>
    have code := Reg8.code_of_ofCode hs
    exact .instr (shiftR_codes y_lt s) (opcode_eq (by omega))
  case h_2 _ hs =>
    have code := Reg8.eq_six_of_ofCode z_lt hs
    exact .instr (shiftAtHL_codes y_lt) (opcode_eq (by omega))
  case h_3 _ hs | h_5 _ hs | h_7 hs _ _ _ =>
    have code := Reg8.code_of_ofCode hs
    exact .instr ⟨rfl, rfl⟩ (opcode_eq (by grind))
  case h_4 _ hs | h_6 _ hs | h_8 hs _ _ _ =>
    have code := Reg8.eq_six_of_ofCode z_lt hs
    exact .instr ⟨rfl, rfl⟩ (opcode_eq (by grind))

theorem decodeXYCB_reads (p : IndexReg) (d : Byte) :
    (decodeXYCB p d b).Reads [p.prefixByte, 0xCB, d] b rest := by
  obtain ⟨fields, x_lt, y_lt, z_lt⟩ := byte_fields b
  have bit := toNat_bitNumber y_lt
  unfold decodeXYCB
  dsimp only
  split
  case h_1 _ hs =>
    have code := Reg8.eq_six_of_ofCode z_lt hs
    exact .instr (shiftAtXYd_codes y_lt p d) (opcode_eq (by omega))
  case h_2 s _ hs =>
    have code := Reg8.code_of_ofCode hs
    exact .instr (shiftAtXYdR_codes y_lt p d s) (opcode_eq (by omega))
  case h_3 _ hs | h_5 _ hs | h_7 hs _ _ _ =>
    have code := Reg8.eq_six_of_ofCode z_lt hs
    exact .instr (p.pick_codes ⟨rfl, rfl⟩ ⟨rfl, rfl⟩) (opcode_eq (by grind))
  case h_4 => trivial
  case h_6 _ hs | h_8 hs _ _ _ =>
    have code := Reg8.code_of_ofCode hs
    exact .instr (p.pick_codes ⟨rfl, rfl⟩ ⟨rfl, rfl⟩) (opcode_eq (by grind))

theorem decodeED_reads : (decodeED b rest).Reads [0xED] b rest := by
  unfold decodeED
  split
  case h_46 =>
    split
    next hx =>
      obtain ⟨fields, -, y_lt, z_lt⟩ := byte_fields b
      exact decodeED1_reads y_lt z_lt rest (by omega)
    next => trivial
  all_goals rename_i hb
  case h_3 | h_19 => exact .withByte (fun _ => ⟨rfl, rfl⟩) (byte_eq hb)
  case h_13 | h_14 | h_15 => exact .withWord (fun _ => ⟨rfl, rfl⟩) (byte_eq hb)
  case h_16 =>
    have bytes (h l : Byte) : [0xED, 0x8A, hi (join h l), lo (join h l)] = [0xED] ++ [0x8A, h, l] := by
      rw [hi_join, lo_join]
      rfl
    exact .withBytes (fun h l => ⟨rfl, bytes h l⟩) (byte_eq hb)
  case h_18 => exact .withBytes (fun _ _ => ⟨rfl, rfl⟩) (byte_eq hb)
  all_goals exact .instr ⟨rfl, rfl⟩ (byte_eq hb)

theorem decodeXY_reads (p : IndexReg) : (decodeXY p b rest).Reads [p.prefixByte] b rest := by
  unfold decodeXY
  split
  case h_24 =>
    obtain ⟨fields, -, y_lt, z_lt⟩ := byte_fields b
    dsimp only
    split
    case h_1 hx => exact decodeXY1_reads y_lt z_lt rest p (by omega)
    case h_2 => exact .instr (aluXYH_codes y_lt p) (opcode_eq (by omega))
    case h_3 => exact .instr (aluXYL_codes y_lt p) (opcode_eq (by omega))
    case h_4 => exact .withByte (aluAtXYd_codes y_lt p) (opcode_eq (by omega))
    case h_5 => trivial
  all_goals rename_i hb
  case h_5 | h_6 | h_7 =>
    exact .withWord (fun _ => p.pick_codes ⟨rfl, rfl⟩ ⟨rfl, rfl⟩) (byte_eq hb)
  case h_14 | h_15 | h_16 | h_17 =>
    exact .withByte (fun _ => p.pick_codes ⟨rfl, rfl⟩ ⟨rfl, rfl⟩) (byte_eq hb)
  case h_18 => exact .withBytes (fun _ _ => p.pick_codes ⟨rfl, rfl⟩ ⟨rfl, rfl⟩) (byte_eq hb)
  all_goals exact .instr (p.pick_codes ⟨rfl, rfl⟩ ⟨rfl, rfl⟩) (byte_eq hb)

theorem decodeUnprefixed_reads (hCB : b ≠ 0xCB) (hED : b ≠ 0xED) (hDD : b ≠ 0xDD) (hFD : b ≠ 0xFD) :
    (decodeUnprefixed b rest).Reads [] b rest := by
  obtain ⟨fields, x_lt, y_lt, z_lt⟩ := byte_fields b
  have ne_of_ne {c : Byte} (h : b ≠ c) : b.toNat ≠ c.toNat := mt BitVec.eq_of_toNat_eq h
  unfold decodeUnprefixed
  split
  case h_1 => exact decodeOP0_reads y_lt z_lt rest (by omega)
  case h_2 => exact decodeOP1_reads y_lt z_lt rest (by omega)
  case h_3 => exact decodeOP2_reads y_lt z_lt rest (by omega)
  case h_4 =>
    exact decodeOP3_reads y_lt z_lt rest (by grind) (ne_of_ne hCB) (ne_of_ne hDD) (ne_of_ne hED) (ne_of_ne hFD)

theorem decodePrefixXY_reads (p : IndexReg) : (decodePrefixXY p rest).Reads [] p.prefixByte rest := by
  match rest with
  | [] => trivial
  | b :: rest =>
    by_cases hCB : b = 0xCB
    · subst hCB
      match rest with
      | [] | [_] => trivial
      | d :: op :: rest =>
        rw [decodePrefixXY_CB]
        exact decodeXYCB_reads op rest p d
    · rw [decodePrefixXY_of_ne hCB]
      exact decodeXY_reads b rest p

theorem decode_reads : (decode (b :: rest)).Reads [] b rest := by
  obtain rfl | rfl | ⟨p, rfl⟩ | ⟨hCB, hED, hDD, hFD⟩ := firstByte_cases b
  · match rest with
    | [] => trivial
    | op :: rest =>
      rw [decode_CB]
      exact decodeCB_reads op rest
  · match rest with
    | [] => trivial
    | op :: rest =>
      rw [decode_ED]
      exact decodeED_reads op rest
  · rw [decode_prefixXY]
    exact decodePrefixXY_reads rest p
  · rw [decode_unprefixed hCB hED hDD hFD]
    exact decodeUnprefixed_reads b rest hCB hED hDD hFD

end

/-- Settles O6: the reading lemmas, map by map, from the first byte on. -/
theorem decodeSound : Obligations.DecodeSound := by
  intro bytes i h
  match bytes with
  | [] => cases h
  | b :: rest =>
    have reads := decode_reads b rest
    rw [h] at reads
    exact reads

end Sys2Proof
end


section
/-! PROOF. The reserved sequences, and the step that refuses them (O7): what each map rejects, then the maps by their
prefixes. -/

namespace Sys2Proof

open Machine

/-- The decoder rejects. -/
def Decoded.isRejected : Decoded → Bool
  | .instr _ => false
  | .rejected _ => true

theorem Decoded.isRejected_iff (r : Decoded) : r.isRejected = true ↔ ∃ e, r = .rejected e := by
  cases r with
  | instr i => simp [isRejected]
  | rejected e => simp [isRejected]

theorem inRanges_iff (b : Byte) (rs : List (Nat × Nat)) :
    inRanges b rs = true ↔ ∃ r ∈ rs, r.1 ≤ b.toNat ∧ b.toNat ≤ r.2 := by
  simp [inRanges]

/-! ## Each map against its list, row by row

An opcode byte that a row names is outside the list; one that no row names is in it. -/

section
variable (m n : Byte) (rest : List Byte) {b : Byte} {y z : Nat}

/-- By evaluation at each of the 256 first bytes, whatever the operand bytes are. -/
theorem decodeUnprefixed_isRejected : ∀ b : Byte, (decodeUnprefixed b (m :: n :: rest)).isRejected = false :=
  of_decide_eq_true (Eq.refl true)

theorem decodeED1_isRejected (hy : y < 8) (hz : z < 8) (hb : b.toNat = 64 + 8 * y + z) :
    (decodeED1 b y z (m :: n :: rest)).isRejected = inRanges b edReserved := by
  obtain rfl := eq_ofNat hb
  interval_cases z <;> interval_cases y <;> rfl

theorem decodeED_isRejected : (decodeED b (m :: n :: rest)).isRejected = inRanges b edReserved := by
  unfold decodeED
  split
  case h_46 =>
    obtain ⟨fields, x_lt, y_lt, z_lt⟩ := byte_fields b
    split
    next => exact decodeED1_isRejected m n rest y_lt z_lt (by omega)
    next =>
      have listed : inRanges b edReserved = true := by
        simp only [inRanges_iff, edReserved, List.mem_cons, List.not_mem_nil, or_false, exists_eq_or_imp,
          exists_eq_left]
        grind
      exact listed.symm
  all_goals
    rename_i hb
    obtain rfl := eq_ofNat hb
    rfl

theorem decodeXY1_isRejected (p : IndexReg) (hy : y < 8) (hz : z < 8) (hb : b.toNat = 64 + 8 * y + z) :
    (decodeXY1 p b y z (m :: n :: rest)).isRejected = inRanges b xyReserved := by
  obtain rfl := eq_ofNat hb
  interval_cases z <;> interval_cases y <;> rfl

/-- R308 leaves the accumulator operations on the halves and on `(XY+d)` unreserved. -/
theorem aluXY_notReserved (hy : y < 8) (hz : z ∈ [4, 5, 6]) (hb : b.toNat = 64 * 2 + 8 * y + z) :
    inRanges b xyReserved = false := by
  obtain rfl := eq_ofNat hb
  fin_cases hz <;> interval_cases y <;> rfl

theorem decodeXY_isRejected (p : IndexReg) (hCB : b ≠ 0xCB) :
    (decodeXY p b (m :: n :: rest)).isRejected = inRanges b xyReserved := by
  unfold decodeXY
  split
  case h_24 =>
    obtain ⟨fields, x_lt, y_lt, z_lt⟩ := byte_fields b
    dsimp only
    split
    case h_1 => exact decodeXY1_isRejected m n rest p y_lt z_lt (by omega)
    case h_5 =>
      have toNat_ne : b.toNat ≠ 0xCB := mt eq_ofNat hCB
      have listed : inRanges b xyReserved = true := by
        simp only [inRanges_iff, xyReserved, List.mem_cons, List.not_mem_nil, or_false, exists_eq_or_imp,
          exists_eq_left]
        grind
      exact listed.symm
    case h_2 => exact (aluXY_notReserved (z := 4) y_lt (by decide) (by omega)).symm
    case h_3 => exact (aluXY_notReserved (z := 5) y_lt (by decide) (by omega)).symm
    case h_4 => exact (aluXY_notReserved (z := 6) y_lt (by decide) (by omega)).symm
  all_goals
    rename_i hb
    obtain rfl := eq_ofNat hb
    rfl

/-- By evaluation at each of the 256 fourth bytes. -/
theorem decodeXYCB_isRejected (p : IndexReg) (d : Byte) :
    ∀ b : Byte, (decodeXYCB p d b).isRejected = (inRanges b [(0x40, 0x7F)] && b.toNat % 8 != 6) :=
  of_decide_eq_true (Eq.refl true)

end

/-! ## The reserved sequences by their prefixes -/

/-- What R308 and R309 reserve after `DD` and `FD`, by the bytes that decide it. -/
def reservedXY (b1 b3 : Byte) : Bool :=
  inRanges b1 xyReserved || (b1 == 0xCB && inRanges b3 [(0x40, 0x7F)] && b3.toNat % 8 != 6)

theorem reservedBytes_CB (b1 b3 : Byte) : reservedBytes 0xCB b1 b3 = false := rfl

theorem reservedBytes_ED (b1 b3 : Byte) : reservedBytes 0xED b1 b3 = inRanges b1 edReserved := Bool.or_false _

theorem reservedBytes_XY (p : IndexReg) (b1 b3 : Byte) : reservedBytes p.prefixByte b1 b3 = reservedXY b1 b3 := by
  cases p <;> rfl

theorem reservedBytes_unprefixed {b0 : Byte} (hED : b0 ≠ 0xED) (hDD : b0 ≠ 0xDD) (hFD : b0 ≠ 0xFD) (b1 b3 : Byte) :
    reservedBytes b0 b1 b3 = false := by
  simp only [reservedBytes, beq_false_of_ne hED, beq_false_of_ne hDD, beq_false_of_ne hFD, Bool.false_and,
    Bool.or_false]

theorem reservedXY_CB (b3 : Byte) :
    reservedXY 0xCB b3 = (inRanges b3 [(0x40, 0x7F)] && b3.toNat % 8 != 6) := rfl

theorem reservedXY_of_ne {b1 : Byte} (h : b1 ≠ 0xCB) (b3 : Byte) : reservedXY b1 b3 = inRanges b1 xyReserved := by
  simp only [reservedXY, beq_false_of_ne h, Bool.false_and, Bool.or_false]

/-! ## The decoder against the reserved sequences -/

theorem decodePrefixXY_isRejected (p : IndexReg) (b1 b2 b3 : Byte) :
    (decodePrefixXY p [b1, b2, b3]).isRejected = reservedXY b1 b3 := by
  by_cases hCB : b1 = 0xCB
  · subst hCB
    rw [decodePrefixXY_CB, decodeXYCB_isRejected, reservedXY_CB]
  · rw [decodePrefixXY_of_ne hCB, decodeXY_isRejected b2 b3 [] p hCB, reservedXY_of_ne hCB]

theorem decode_isRejected (b0 b1 b2 b3 : Byte) : (decode [b0, b1, b2, b3]).isRejected = reservedBytes b0 b1 b3 := by
  obtain rfl | rfl | ⟨p, rfl⟩ | ⟨hCB, hED, hDD, hFD⟩ := firstByte_cases b0
  · rw [decode_CB, reservedBytes_CB]
    rfl
  · rw [decode_ED, reservedBytes_ED, decodeED_isRejected]
  · rw [decode_prefixXY, reservedBytes_XY, decodePrefixXY_isRejected]
  · rw [decode_unprefixed hCB hED hDD hFD, reservedBytes_unprefixed hED hDD hFD,
      decodeUnprefixed_isRejected]

/-- Settles O7: four bytes are never truncated, and a step that fetches refuses what the decoder rejects. -/
theorem reservedExactly : Obligations.ReservedExactly := by
  refine ⟨fun b0 b1 b2 b3 => ?_, fun s e fetches rejected => ?_⟩
  · rw [← Decoded.isRejected_iff, decode_isRejected]
  · exact step_rejected ((State.boundary_eq_none s).2 fetches) rejected

end Sys2Proof
end

section
/-! PROOF. Loads, stores, the stack and exchanges (O17 to O23, O25, O26). First, per shared operation, what the state
after it holds; then, per kind of instruction, what an instruction that ends in that operation does; then each statement
form by form. An `exec` equation is `rfl` at each form. -/

namespace Sys2Proof.Machine

/-! ## What the operations leave -/

@[simp] theorem State.advance_pair (s : State) (n : Nat) (q : Pair) : (s.advance n).pair q = s.pair q := by
  cases q <;> rfl

@[simp] theorem State.advance_index (s : State) (n : Nat) (p : IndexReg) : (s.advance n).index p = s.index p := by
  cases p <;> rfl

/-- Writing the high half of an index register keeps the low half (R103). -/
theorem State.index_setHalf_high (s : State) (p : IndexReg) (v : Byte) :
    (s.setHalf p .high v).index p = join v (lo (s.index p)) := by
  simp [State.setHalf]

/-- Writing the low half of an index register keeps the high half (R103). -/
theorem State.index_setHalf_low (s : State) (p : IndexReg) (v : Byte) :
    (s.setHalf p .low v).index p = join (hi (s.index p)) v := by
  simp [State.setHalf]

/-- The flags of `LD A,I` and `LD A,R` are those of the byte loaded, with `IFF2` in `PV` (R413). -/
theorem State.loadA_flags (s : State) (v : Byte) :
    FlagsAre (s.loadA v) v.msb (decide (v = 0)) false s.iff2 false s.f.cf :=
  State.setFlags_named _ _

/-- A byte store lands (R210). -/
theorem State.write_landed {s : State} (hm : s.mem.wf = true) (x : Word) (v : Byte) : Landed s (s.write x v) x v :=
  fun y => State.read_write hm x y v

/-- A 16-bit store lands: of its two addresses the order does not matter, since they differ (R203, R206). -/
theorem State.write16_landed {s : State} (hm : s.mem.wf = true) (x v : Word) : LandedWord s (s.write16 x v) x v := by
  intro y
  rw [State.read_write16 hm]
  by_cases hy : y = x
  · subst hy
    have notHigh : y ≠ y + 1 := (succ_ne y).symm
    simp only [notHigh, false_and, if_false]
  · simp only [hy, false_and, if_false]

@[simp] theorem State.replaceTop_sp (s : State) (v : Word) : (s.replaceTop v).sp = s.sp := rfl

theorem State.replaceTop_landed {s : State} (hm : s.mem.wf = true) (v : Word) :
    LandedWord s (s.replaceTop v) s.sp v :=
  State.write16_landed hm s.sp v

/-- What the instruction does after its store leaves memory alone. -/
theorem LandedWord.of_mem_eq {s t u : State} {x v : Word} (h : LandedWord s t x v) (hu : u.mem = t.mem) :
    LandedWord s u x v :=
  fun y => (congrArg (Memory.read · y.toNat) hu).trans (h y)

/-- A push moves `SP` and lands where it then points (R230): its high byte is at `SP - 1`, the address after the low
byte's. -/
theorem State.push_pushed {s : State} (hm : s.mem.wf = true) (v : Word) : Pushed s (s.push v) v := by
  refine ⟨State.push_sp s v, fun y => ?_⟩
  have above : s.sp - 2 + 1 = s.sp - 1 := by bv_omega
  rw [State.read_push hm, above]

/-! ## What an instruction that ends in one of them does -/

section
variable {i : Instr} {s : State} {n : Nat}

theorem runs_set {k : Reg8} {v : Byte} (h : exec i s = .next ((s.set k v).advance n)) :
    Runs i s fun t => ∀ j, t.get j = if j = k then v else s.get j :=
  ⟨_, h, fun j => by rw [State.get_advance, State.get_set]⟩

theorem runs_set_self {k : Reg8} {v : Byte} (h : exec i s = .next ((s.set k v).advance n)) :
    Runs i s fun t => t.get k = v :=
  ⟨_, h, by simp only [State.get_advance, State.get_set, if_true]⟩

theorem runs_setHalf_high {p : IndexReg} {v : Byte} (h : exec i s = .next ((s.setHalf p .high v).advance n)) :
    Runs i s fun t => t.index p = join v (lo (s.index p)) :=
  ⟨_, h, by simp only [State.advance_index, State.index_setHalf_high]⟩

theorem runs_setHalf_low {p : IndexReg} {v : Byte} (h : exec i s = .next ((s.setHalf p .low v).advance n)) :
    Runs i s fun t => t.index p = join (hi (s.index p)) v :=
  ⟨_, h, by simp only [State.advance_index, State.index_setHalf_low]⟩

theorem runs_setPair {q : Pair} {v : Word} (h : exec i s = .next ((s.setPair q v).advance n)) :
    Runs i s fun t => t.pair q = v :=
  ⟨_, h, by simp only [State.advance_pair, State.pair_setPair]⟩

theorem runs_setIndex {p : IndexReg} {v : Word} (h : exec i s = .next ((s.setIndex p v).advance n)) :
    Runs i s fun t => t.index p = v :=
  ⟨_, h, by simp only [State.advance_index, State.index_setIndex, if_true]⟩

theorem runs_setSP {v : Word} (h : exec i s = .next ((s.setSP v).advance n)) : Runs i s fun t => t.sp = v :=
  ⟨_, h, rfl⟩

theorem runs_write {x : Word} {v : Byte} (hm : s.mem.wf = true) (h : exec i s = .next ((s.write x v).advance n)) :
    Runs i s fun t => Landed s t x v :=
  ⟨_, h, State.write_landed hm x v⟩

theorem runs_write16 {x v : Word} (hm : s.mem.wf = true) (h : exec i s = .next ((s.write16 x v).advance n)) :
    Runs i s fun t => LandedWord s t x v :=
  ⟨_, h, State.write16_landed hm x v⟩

theorem runs_push {v : Word} (hm : s.mem.wf = true) (h : exec i s = .next ((s.push v).advance n)) :
    Runs i s fun t => Pushed s t v :=
  ⟨_, h, State.push_pushed hm v⟩

theorem runs_popPair {q : PairAF} (h : exec i s = .next ((s.popped.setPairAF q s.top).advance n)) :
    Runs i s fun t => t.sp = s.sp + 2 ∧ t.pairAF q = s.top :=
  ⟨_, h, by simp only [State.advance_sp, State.setPairAF_sp, State.popped_sp],
    by simp only [State.advance_pairAF, State.pairAF_setPairAF]⟩

theorem runs_popIndex {p : IndexReg} (h : exec i s = .next ((s.popped.setIndex p s.top).advance n)) :
    Runs i s fun t => t.sp = s.sp + 2 ∧ t.index p = s.top :=
  ⟨_, h, rfl, by simp only [State.advance_index, State.index_setIndex, if_true]⟩

theorem runs_exchangeHL (hm : s.mem.wf = true)
    (h : exec i s = .next (((s.replaceTop s.hl).setHL s.top).advance n)) :
    Runs i s fun t => t.l = s.read s.sp ∧ t.h = s.read (s.sp + 1) ∧ t.sp = s.sp ∧ LandedWord s t s.sp s.hl :=
  ⟨_, h, by simp only [State.advance_l, State.setHL_l, State.top, lo_join],
    by simp only [State.advance_h, State.setHL_h, State.top, hi_join],
    by simp only [State.advance_sp, State.setHL_sp, State.replaceTop_sp],
    (State.replaceTop_landed hm s.hl).of_mem_eq (by simp only [State.advance_mem, State.setHL_mem])⟩

theorem runs_exchangeIndex {p : IndexReg} (hm : s.mem.wf = true)
    (h : exec i s = .next (((s.replaceTop (s.index p)).setIndex p s.top).advance n)) :
    Runs i s fun t => t.index p = s.top ∧ t.sp = s.sp ∧ LandedWord s t s.sp (s.index p) :=
  ⟨_, h, by simp only [State.advance_index, State.index_setIndex, if_true],
    by simp only [State.advance_sp, State.setIndex_sp, State.replaceTop_sp],
    (State.replaceTop_landed hm (s.index p)).of_mem_eq (by simp only [State.advance_mem, State.setIndex_mem])⟩

end

/-! ## Stores, the stack, exchange with its top -/

/-- Settles O18: every form is one byte store. -/
theorem storeByte : Obligations.StoreByte := by
  intro s hm
  exact ⟨fun _ => runs_write hm rfl, fun _ => runs_write hm rfl,
    fun _ _ => runs_write hm rfl, fun _ _ => runs_write hm rfl,
    fun _ _ => runs_write hm rfl, fun _ _ => runs_write hm rfl,
    runs_write hm rfl, runs_write hm rfl, fun _ => runs_write hm rfl⟩

/-- Settles O22: every form is one 16-bit store. -/
theorem storeWord : Obligations.StoreWord := by
  intro s hm
  exact ⟨fun _ => runs_write16 hm rfl, fun _ _ => runs_write16 hm rfl, fun _ => runs_write16 hm rfl,
    fun _ => runs_write16 hm rfl⟩

/-- Settles O23: the four forms of PUSH, then the three of POP. -/
theorem pushPop : Obligations.PushPop := by
  intro s hm
  exact ⟨fun _ => runs_push hm rfl, runs_push hm rfl, runs_push hm rfl, fun _ => runs_push hm rfl,
    fun _ => runs_popPair rfl, runs_popIndex (p := .ix) rfl, runs_popIndex (p := .iy) rfl⟩

/-- Settles O26: the register takes the top that was read before the store. -/
theorem exchangeStackTop : Obligations.ExchangeStackTop := by
  intro s hm
  exact ⟨runs_exchangeHL hm rfl, runs_exchangeIndex (p := .ix) hm rfl, runs_exchangeIndex (p := .iy) hm rfl⟩

/-! ## Loads -/

/-- Settles O17: every form is one register write, of a value computed before it. -/
theorem loadByte : Obligations.LoadByte := by
  intro s
  exact ⟨fun _ _ => runs_set rfl, fun _ _ => runs_set rfl, fun _ => runs_set rfl,
    fun _ _ => runs_set rfl, fun _ _ => runs_set rfl, runs_set rfl, runs_set rfl, fun _ => runs_set rfl⟩

/-- Settles O19: per half, the load from it, then the loads into it from a register, an immediate and the two halves. -/
theorem loadIndexHalf : Obligations.LoadIndexHalf := by
  intro s
  exact ⟨
    fun _ => runs_set_self rfl, fun _ => runs_setHalf_high (p := .ix) rfl, fun _ => runs_setHalf_high (p := .ix) rfl,
    runs_setHalf_high (p := .ix) rfl, runs_setHalf_high (p := .ix) rfl,
    fun _ => runs_set_self rfl, fun _ => runs_setHalf_low (p := .ix) rfl, fun _ => runs_setHalf_low (p := .ix) rfl,
    runs_setHalf_low (p := .ix) rfl, runs_setHalf_low (p := .ix) rfl,
    fun _ => runs_set_self rfl, fun _ => runs_setHalf_high (p := .iy) rfl, fun _ => runs_setHalf_high (p := .iy) rfl,
    runs_setHalf_high (p := .iy) rfl, runs_setHalf_high (p := .iy) rfl,
    fun _ => runs_set_self rfl, fun _ => runs_setHalf_low (p := .iy) rfl, fun _ => runs_setHalf_low (p := .iy) rfl,
    runs_setHalf_low (p := .iy) rfl, runs_setHalf_low (p := .iy) rfl⟩

/-- Settles O20: `LD A,R` is `LD A,I` on a drawn byte, and a draw moves neither `IFF2` nor `F`. -/
theorem loadSpecial : Obligations.LoadSpecial := by
  intro s
  exact ⟨⟨_, rfl, rfl, State.loadA_flags s s.i⟩, ⟨_, rfl, State.loadA_flags (s.drew 1) s.drawnByte⟩,
    ⟨_, rfl, rfl, rfl⟩, ⟨_, rfl, rfl, rfl⟩⟩

/-- Settles O21: the immediates, the words from memory, then the copies into `SP`. -/
theorem loadWord : Obligations.LoadWord := by
  intro s
  refine ⟨fun _ _ => runs_setPair rfl, fun _ => runs_setIndex (p := .ix) rfl, fun _ => runs_setIndex (p := .iy) rfl,
    fun _ => ⟨_, rfl, ?low, ?high⟩, fun _ _ => runs_setPair rfl, fun _ => runs_setIndex (p := .ix) rfl,
    fun _ => runs_setIndex (p := .iy) rfl, runs_setSP rfl, runs_setSP rfl, runs_setSP rfl⟩
  case low => exact lo_join _ _
  case high => exact hi_join _ _

/-! ## Exchanges -/

theorem exec_exAFAFAlt_eq (s : State) :
    exec .exAFAFAlt s = .next { s with a := s.a', f := s.f', a' := s.a, f' := s.f, pc := s.pc + 1 } := rfl

/-- The four halves, each out of the pair it was read in. -/
theorem exec_exDEHL_eq (s : State) :
    exec .exDEHL s = .next { s with d := s.h, e := s.l, h := s.d, l := s.e, pc := s.pc + 1 } := by
  have swapped : (s.setDE s.hl).setHL s.de = { s with d := s.h, e := s.l, h := s.d, l := s.e } := by
    simp only [State.setDE, State.setHL, State.hl, State.de, hi_join, lo_join]
  rw [exec_exDEHL, execExDEHL, swapped]
  rfl

theorem exec_exx_eq (s : State) :
    exec .exx s =
      .next
        { s with b := s.b', c := s.c', d := s.d', e := s.e', h := s.h', l := s.l'
                 b' := s.b, c' := s.c, d' := s.d, e' := s.e, h' := s.h, l' := s.l, pc := s.pc + 1 } := rfl

/-- Settles O25: the second exchange is the same equation at the state of the first, and `PC` has moved twice by 1. -/
theorem exchanges : Obligations.Exchanges := by
  intro s
  refine ⟨exec_exAFAFAlt_eq s, exec_exDEHL_eq s, exec_exx_eq s, fun i hi => ?_⟩
  have twice : s.pc + 1 + 1 = s.pc + 2 := BitVec.add_assoc s.pc 1 1
  simp only [List.mem_cons, List.not_mem_nil, or_false] at hi
  obtain rfl | rfl | rfl := hi
  · exact ⟨_, exec_exAFAFAlt_eq s, by simp only [exec_exAFAFAlt_eq, twice]⟩
  · exact ⟨_, exec_exDEHL_eq s, by simp only [exec_exDEHL_eq, twice]⟩
  · exact ⟨_, exec_exx_eq s, by simp only [exec_exx_eq, twice]⟩

end Sys2Proof.Machine
end

section
/-! PROOF. The accumulator operations (O31) and decimal arithmetic (O32). DAA makes one sum or difference out of its two
corrections. After ADD of decimal numbers the low one is made where the units carry and the high one where the sum
reaches 100, which gives the digits of the sum; SUB followed by DAA is the inverse of that. -/

namespace Sys2Proof.Machine

/-! ## DAA, by when it corrects (R511) -/

/-- What DAA adds or subtracts, given whether it corrects the low and the high digit. -/
def daaCorrection (low high : Prop) [Decidable low] [Decidable high] : Nat :=
  (if low then 6 else 0) + if high then 0x60 else 0

section
variable {a : Byte} {f : Flags} {low high : Prop} [Decidable low] [Decidable high]

/-- The two corrections have no bit in common. -/
theorem or_eq_daaCorrection :
    (if low then (0x06 : Byte) else 0x00) ||| (if high then 0x60 else 0x00) =
      BitVec.ofNat 8 (daaCorrection low high) := by
  unfold daaCorrection
  split_ifs <;> rfl

theorem daa_cf_of_iff (hhigh : f.cf = true ∨ a.toNat > 0x99 ↔ high) : (daa a f).2.cf = decide high := by
  rw [Bool.eq_iff_iff, decide_eq_true_iff, ← hhigh]
  simp only [daa, Bool.or_eq_true, decide_eq_true_eq]

theorem daa_result_of_iff (hlow : f.hf = true ∨ a.toNat % 16 > 9 ↔ low)
    (hhigh : f.cf = true ∨ a.toNat > 0x99 ↔ high) :
    (daa a f).1 =
      if f.nf = true then a - BitVec.ofNat 8 (daaCorrection low high)
      else a + BitVec.ofNat 8 (daaCorrection low high) := by
  rw [← or_eq_daaCorrection]
  simp only [daa, Bool.or_eq_true, decide_eq_true_eq, hlow, hhigh]

end

theorem daa_flags (a : Byte) (f : Flags) : (daa a f).2 =
    { sf := (daa a f).1.msb, zf := decide ((daa a f).1 = 0), hf := (a ^^^ (daa a f).1).getLsbD 4
      pv := decide (ones (daa a f).1 % 2 = 0), nf := f.nf
      cf := decide (f.cf = true ∨ a.toNat > 0x99) } := by
  rw [← parity_eq, ← daa_cf_of_iff Iff.rfl]
  rfl

/-! ## ADD and SUB without a carry in, as word operations (R501, R503, R513) -/

theorem add8_result (a b : Byte) : (add8 a b false).1 = a + b :=
  BitVec.eq_of_toNat_eq (add8_toNat a b false)

theorem sub8_result (a b : Byte) : (sub8 a b false).1 = a - b := by
  have difference := sub8_toNat a b false
  apply BitVec.eq_of_toNat_eq
  rw [BitVec.toNat_sub]
  simp only [Bool.toNat_false] at difference
  omega

theorem sub8_zero_hf (v : Byte) : (sub8 0 v false).2.hf = decide (v.toNat % 16 ≠ 0) := by
  rw [sub8_flags, decide_eq_decide]
  exact Nat.pos_iff_ne_zero

theorem sub8_zero_cf (v : Byte) : (sub8 0 v false).2.cf = decide (v ≠ 0) := by
  rw [sub8_flags, decide_eq_decide, ne_eq, ← BitVec.toNat_inj]
  exact Nat.pos_iff_ne_zero

/-! ## Decimal digits in hexadecimal places -/

/-- The number whose hexadecimal digits are the tens and the units of `n`; `bcd n` is its byte. -/
def digits (n : Nat) : Nat := 16 * (n / 10) + n % 10

theorem digits_mod (n : Nat) : digits n % 16 = n % 10 := by
  unfold digits
  omega

theorem digits_lt_iff (m n : Nat) : digits m < digits n ↔ m < n := by
  unfold digits
  omega

theorem digits_add_hundred (n : Nat) : digits (n + 100) = digits n + 0xA0 := by
  unfold digits
  omega

/-- Where the units carry, ten of them take up six more in a place of sixteen. -/
theorem digits_add (m n : Nat) : digits (m + n) = digits m + digits n + if m % 10 + n % 10 > 9 then 6 else 0 := by
  unfold digits
  split <;> omega

/-- The units decide only where there are nine tens in all. -/
theorem digits_add_gt (m n : Nat) : digits m + digits n > 0x99 ↔ m + n > 99 := by
  have tens : m / 10 + n / 10 ≤ 8 ∨ m / 10 + n / 10 = 9 ∨ m / 10 + n / 10 ≥ 10 := by omega
  unfold digits
  obtain fewer | nine | more := tens <;> omega

section
variable {a : Byte} {f : Flags} {x y : Nat}

theorem digits_le (hx : x < 100) : digits x ≤ 0x99 := Nat.le_of_not_lt ((digits_lt_iff 99 x).not.2 (by omega))

theorem bcd_toNat (hx : x < 100) : (bcd x).toNat = digits x :=
  Nat.mod_eq_of_lt (Nat.lt_of_le_of_lt (digits_le hx) (by decide))

/-! ## The corrected sum and difference (R511) -/

/-- The high correction drops the hundred. -/
theorem ofNat_digits_corrected (hx : x < 200) :
    BitVec.ofNat 8 (digits x + if x > 99 then 0x60 else 0) = bcd (x % 100) := by
  split
  case isTrue h =>
    obtain ⟨n, rfl⟩ := Nat.exists_eq_add_of_le' h
    rw [Nat.add_mod_right, Nat.mod_eq_of_lt (by omega), digits_add_hundred]
    exact BitVec.eq_of_toNat_eq (Nat.add_mod_right (digits n) 256)
  case isFalse h =>
    rw [Nat.mod_eq_of_lt (by omega)]
    rfl

theorem bcd_add_corrected (hx : x < 100) (hy : y < 100) :
    bcd x + bcd y + BitVec.ofNat 8 (daaCorrection (x % 10 + y % 10 > 9) (x + y > 99)) = bcd ((x + y) % 100) := by
  have sum : digits x + digits y + daaCorrection (x % 10 + y % 10 > 9) (x + y > 99) =
      digits (x + y) + if x + y > 99 then 0x60 else 0 := by
    rw [digits_add, daaCorrection, ← Nat.add_assoc]
  rw [← ofNat_digits_corrected (by omega), ← sum, BitVec.ofNat_add, BitVec.ofNat_add]
  rfl

/-- The corrected difference is what added to `y` gives `x`: that sum carries where this difference borrows. -/
theorem bcd_sub_corrected (hx : x < 100) (hy : y < 100) :
    bcd x - bcd y - BitVec.ofNat 8 (daaCorrection (x % 10 < y % 10) (x < y)) = bcd ((x + 100 - y) % 100) := by
  have bound : (x + 100 - y) % 100 < 100 := Nat.mod_lt _ (by decide)
  have units : (x + 100 - y) % 100 % 10 + y % 10 > 9 ↔ x % 10 < y % 10 := by omega
  have hundred : (x + 100 - y) % 100 + y > 99 ↔ x < y := by omega
  have back : ((x + 100 - y) % 100 + y) % 100 = x := by omega
  have sum := bcd_add_corrected bound hy
  simp only [units, hundred, back] at sum
  rw [← sum, add_right_comm, BitVec.add_sub_cancel, BitVec.add_sub_cancel]

/-! ## Where DAA corrects after ADD and SUB -/

theorem low_after_add (hx : x < 100) (hy : y < 100) :
    x % 10 + y % 10 > 15 ∨ (bcd x + bcd y).toNat % 16 > 9 ↔ x % 10 + y % 10 > 9 := by
  have nibble : (bcd x + bcd y).toNat % 16 = (x % 10 + y % 10) % 16 := by
    rw [BitVec.toNat_add, bcd_toNat hx, bcd_toNat hy, Nat.mod_mod_of_dvd _ (by decide), Nat.add_mod, digits_mod,
      digits_mod]
  rw [nibble]
  omega

theorem high_after_add (hx : x < 100) (hy : y < 100) :
    digits x + digits y > 255 ∨ (bcd x + bcd y).toNat > 0x99 ↔ x + y > 99 := by
  have hx' := digits_le hx
  have hy' := digits_le hy
  rw [← digits_add_gt x y, BitVec.toNat_add, bcd_toNat hx, bcd_toNat hy]
  omega

theorem low_after_sub (hx : x < 100) (hy : y < 100) :
    x % 10 < y % 10 ∨ (bcd x - bcd y).toNat % 16 > 9 ↔ x % 10 < y % 10 := by
  have nibble : (bcd x - bcd y).toNat % 16 = (16 + x % 10 - y % 10) % 16 := by
    have hy' := digits_le hy
    rw [BitVec.toNat_sub, bcd_toNat hx, bcd_toNat hy, ← digits_mod x, ← digits_mod y]
    omega
  rw [nibble]
  omega

theorem high_after_sub (hx : x < 100) (hy : y < 100) :
    digits x < digits y ∨ (bcd x - bcd y).toNat > 0x99 ↔ x < y := by
  have hx' := digits_le hx
  have hy' := digits_le hy
  rw [← digits_lt_iff x y, BitVec.toNat_sub, bcd_toNat hx, bcd_toNat hy]
  omega

/-- After a decimal addition DAA corrects the low digit where the units carry, and the high digit where the sum has a
third digit. -/
theorem daa_add8_bcd (hx : x < 100) (hy : y < 100) (ha : a = bcd x) (hf : f.named = (add8 a (bcd y) false).2) :
    (daa (add8 a (bcd y) false).1 f).1 = bcd ((x + y) % 100) ∧
      (daa (add8 a (bcd y) false).1 f).2.cf = decide (x + y > 99) := by
  subst ha
  rw [add8_flags, Flags.named, Named.mk.injEq] at hf
  obtain ⟨-, -, half, -, adding, carry⟩ := hf
  simp only [bcd_toNat hx, bcd_toNat hy, digits_mod, Bool.toNat_false, Nat.add_zero] at half carry
  rw [add8_result]
  have low : f.hf = true ∨ (bcd x + bcd y).toNat % 16 > 9 ↔ x % 10 + y % 10 > 9 := by
    rw [half, decide_eq_true_iff, low_after_add hx hy]
  have high : f.cf = true ∨ (bcd x + bcd y).toNat > 0x99 ↔ x + y > 99 := by
    rw [carry, decide_eq_true_iff, high_after_add hx hy]
  rw [daa_result_of_iff low high, adding, if_neg Bool.false_ne_true]
  exact ⟨bcd_add_corrected hx hy, daa_cf_of_iff high⟩

/-- After a decimal subtraction DAA corrects the low digit where the units borrow, and the high digit where the
difference is negative. -/
theorem daa_sub8_bcd (hx : x < 100) (hy : y < 100) (ha : a = bcd x) (hf : f.named = (sub8 a (bcd y) false).2) :
    (daa (sub8 a (bcd y) false).1 f).1 = bcd ((x + 100 - y) % 100) ∧
      (daa (sub8 a (bcd y) false).1 f).2.cf = decide (x < y) := by
  subst ha
  rw [sub8_flags, Flags.named, Named.mk.injEq] at hf
  obtain ⟨-, -, half, -, subtracting, carry⟩ := hf
  simp only [bcd_toNat hx, bcd_toNat hy, digits_mod, Bool.toNat_false, Nat.add_zero] at half carry
  rw [sub8_result]
  have low : f.hf = true ∨ (bcd x - bcd y).toNat % 16 > 9 ↔ x % 10 < y % 10 := by
    rw [half, decide_eq_true_iff, low_after_sub hx hy]
  have high : f.cf = true ∨ (bcd x - bcd y).toNat > 0x99 ↔ x < y := by
    rw [carry, decide_eq_true_iff, high_after_sub hx hy]
  rw [daa_result_of_iff low high, if_pos subtracting]
  exact ⟨bcd_sub_corrected hx hy, daa_cf_of_iff high⟩

end

/-! ## The statements -/

/-- Settles O31: DAA and NEG by the lemmas above; the others write the flags they name over the old ones. -/
theorem accumulatorOps : Obligations.AccumulatorOps := by
  intro s
  refine ⟨⟨_, rfl, ?daaResult⟩, ⟨_, rfl, rfl, rfl⟩, ⟨_, rfl, ?negResult⟩,
    ⟨_, rfl, rfl, rfl, rfl, rfl, rfl⟩, ⟨_, rfl, rfl⟩⟩
  case daaResult =>
    have result := daa_result_of_iff (a := s.a) (f := s.f) Iff.rfl Iff.rfl
    have flags := daa_flags s.a s.f
    rw [result] at flags
    exact ⟨result, flags⟩
  case negResult =>
    exact ⟨sub8_result 0 s.a, rfl, beq_eq_decide _ _, sub8_zero_hf s.a, rfl, sub8_zero_cf s.a⟩

/-- Settles O32: DAA on the result and the flags that ADD or SUB leaves. -/
theorem decimalArithmetic : Obligations.DecimalArithmetic := by
  intro s x y hx hy ha
  constructor
  · refine ⟨_, rfl, _, rfl, ?_⟩
    exact daa_add8_bcd (f := ((s.addA (bcd y)).advance 2).f) hx hy ha rfl
  · refine ⟨_, rfl, _, rfl, ?_⟩
    exact daa_sub8_bcd (f := ((s.subA (bcd y)).advance 2).f) hx hy ha rfl

end Sys2Proof.Machine
end

section
/-! PROOF. 16-bit increment, decrement, addition to a pair and MUL (O35). Each writes one pair or index register; what
such a write keeps is said first, then what the product and the sum with a byte are in arithmetic. -/

namespace Sys2Proof.Machine

/-! ## What a write of a pair keeps -/

@[simp] theorem State.setPair_a (s : State) (q : Pair) (v : Word) : (s.setPair q v).a = s.a := by cases q <;> rfl

@[simp] theorem State.setPair_f (s : State) (q : Pair) (v : Word) : (s.setPair q v).f = s.f := by cases q <;> rfl

@[simp] theorem State.setPair_cfg (s : State) (q : Pair) (v : Word) : (s.setPair q v).cfg = s.cfg := by
  cases q <;> rfl

@[simp] theorem State.freeCarry_pair (s : State) (q : Pair) : s.freeCarry.pair q = s.pair q := by cases q <;> rfl

/-- `CarryFree` looks at nothing of its states but `F` and the platform. -/
theorem CarryFree.congr {s s' t t' : State} (h : CarryFree s t) (hf : s'.f = s.f) (hcfg : s'.cfg = s.cfg)
    (ht : t'.f = t.f) : CarryFree s' t' := by
  rw [CarryFree, hf, hcfg, ht]
  exact h

/-! ## Bytes as words -/

theorem zext16_toNat (v : Byte) : (zext16 v).toNat = v.toNat := BitVec.toNat_setWidth_of_le (by decide)

/-- The byte counts as unsigned (R558). -/
theorem add_zext16_toNat (x : Word) (v : Byte) : (x + zext16 v).toNat = (x.toNat + v.toNat) % 65536 := by
  rw [BitVec.toNat_add, zext16_toNat]

/-- The product of two bytes fits a word (R560). -/
theorem mul_zext16_toNat (x y : Byte) : (zext16 x * zext16 y).toNat = x.toNat * y.toNat := by
  have fits : x.toNat * y.toNat < 2 ^ 8 * 2 ^ 8 := Nat.mul_lt_mul'' x.isLt y.isLt
  rw [BitVec.toNat_mul, zext16_toNat, zext16_toNat]
  exact Nat.mod_eq_of_lt fits

/-! ## What an instruction that ends in such a write does -/

section
variable {i : Instr} {s : State} {n : Nat}

theorem runs_setPair_keepsF (q : Pair) {v : Word} (h : exec i s = .next ((s.setPair q v).advance n)) :
    Runs i s fun t => t.pair q = v ∧ t.f = s.f :=
  ⟨_, h, by simp only [State.advance_pair, State.pair_setPair], by simp only [State.advance_f, State.setPair_f]⟩

theorem runs_setIndex_keepsF (p : IndexReg) {v : Word} (h : exec i s = .next ((s.setIndex p v).advance n)) :
    Runs i s fun t => t.index p = v ∧ t.f = s.f :=
  ⟨_, h, by simp only [State.advance_index, State.index_setIndex, if_true],
    by simp only [State.advance_f, State.setIndex_f]⟩

/-- ADD rr,A (R558): the pair is written first, and the flag write sees the `F` and the platform it began with. -/
theorem runs_addPairA (q : Pair)
    (h : exec i s = .next ((s.setPair q (s.pair q + zext16 s.a)).freeCarry.advance n)) :
    Runs i s fun t =>
      (t.pair q).toNat = ((s.pair q).toNat + s.a.toNat) % 65536 ∧ t.a = s.a ∧ CarryFree s t := by
  refine ⟨_, h, ?sum, ?keepsA, ?carry⟩
  case sum => rw [State.advance_pair, State.freeCarry_pair, State.pair_setPair, add_zext16_toNat]
  case keepsA => rw [State.advance_a, State.freeCarry_a, State.setPair_a]
  case carry =>
    exact (State.freeCarry_carryFree _).congr (State.setPair_f s q _).symm (State.setPair_cfg s q _).symm
      (State.advance_f _ n)

end

/-! ## The statement -/

/-- Settles O35: INC and DEC, then ADD rr,A and ADD rr,nn on each of the three pairs, then MUL. -/
theorem pairArithmetic : Obligations.PairArithmetic := by
  intro s
  refine ⟨fun q => runs_setPair_keepsF q rfl, fun q => runs_setPair_keepsF q rfl,
    runs_setIndex_keepsF .ix rfl, runs_setIndex_keepsF .iy rfl, runs_setIndex_keepsF .ix rfl,
    runs_setIndex_keepsF .iy rfl, runs_addPairA .hl rfl, runs_addPairA .de rfl, runs_addPairA .bc rfl,
    fun _ => runs_setPair_keepsF .hl rfl, fun _ => runs_setPair_keepsF .de rfl,
    fun _ => runs_setPair_keepsF .bc rfl, ?product⟩
  case product =>
    obtain ⟨t, ht, hde, hf⟩ := runs_setPair_keepsF (i := .mulDE) (s := s) .de rfl
    exact ⟨t, ht, (congrArg BitVec.toNat hde).trans (mul_zext16_toNat s.d s.e), hf⟩

end Sys2Proof.Machine
end

section
/-! PROOF. Accumulator rotates, barrel shifts, accumulator patterns (O38, O42, O43): what the word operations of the
model are in arithmetic, then each instruction as one register write. -/

namespace Sys2Proof.Machine

/-! ## Shifts and masks in arithmetic -/

/-- Shift left with the `k` bits of `b` coming in, for every width. -/
theorem shiftLeft_or_toNat_add {w k : Nat} (v b : BitVec w) (hk : k ≤ w) (hb : b.toNat < 2 ^ k) :
    (v <<< k ||| b).toNat = v.toNat * 2 ^ k % 2 ^ w + b.toNat := by
  have modulus : 2 ^ w = 2 ^ (w - k) * 2 ^ k := by rw [← pow_add, Nat.sub_add_cancel hk]
  have shifted : v.toNat * 2 ^ k % 2 ^ w = 2 ^ k * (v.toNat % 2 ^ (w - k)) := by
    rw [modulus, Nat.mul_mod_mul_right, Nat.mul_comm]
  rw [BitVec.toNat_or, BitVec.toNat_shiftLeft, Nat.shiftLeft_eq, shifted, ← Nat.two_pow_add_eq_or_of_lt hb]

theorem shiftRight_toNat {w : Nat} (v : BitVec w) (k : Nat) : (v >>> k).toNat = v.toNat / 2 ^ k := by
  rw [BitVec.toNat_ushiftRight, Nat.shiftRight_eq_div_pow]

/-- A rotate left by `k` bits (R624). -/
theorem rotateLeft_toNat {w k : Nat} (v : BitVec w) (hk : k ≤ w) :
    (v <<< k ||| v >>> (w - k)).toNat = v.toNat * 2 ^ k % 2 ^ w + v.toNat / 2 ^ (w - k) := by
  have wraps : (v >>> (w - k)).toNat < 2 ^ k := by
    rw [shiftRight_toNat]
    apply Nat.div_lt_of_lt_mul
    rw [← pow_add, Nat.sub_add_cancel hk]
    exact v.isLt
  rw [shiftLeft_or_toNat_add v _ hk wraps, shiftRight_toNat]

/-- A shift right that brings in ones divides the distance to the greatest value (R623). -/
theorem shiftRight_ones_toNat (v : Word) (k : Nat) : (~~~(~~~v >>> k)).toNat = 65535 - (65535 - v.toNat) / 2 ^ k := by
  rw [BitVec.toNat_not, shiftRight_toNat, BitVec.toNat_not]

/-- A shift right that brings in the sign divides toward minus infinity (R621). -/
theorem sshiftRight_toInt (v : Word) (k : Nat) : (v.sshiftRight k).toInt = v.toInt / 2 ^ k := by
  rw [BitVec.toInt_sshiftRight, Int.shiftRight_eq_div_pow]
  norm_cast

/-- The mask `$0F` leaves the low nibble. -/
theorem and_0F_toNat (v : Byte) : (v &&& 0x0F).toNat = v.toNat % 16 := Nat.and_two_pow_sub_one_eq_mod v.toNat 4

theorem and_0F_lt (v : Byte) : (v &&& 0x0F).toNat < 16 := by
  rw [and_0F_toNat]
  exact Nat.mod_lt _ (by decide)

theorem and_07_toNat (v : Byte) : (v &&& 7).toNat = v.toNat % 8 := Nat.and_two_pow_sub_one_eq_mod v.toNat 3

theorem State.amount_eq (s : State) : s.amount = s.b.toNat % 32 := Nat.and_two_pow_sub_one_eq_mod s.b.toNat 5

/-! ## Nibbles -/

theorem shiftRight4_toNat (v : Byte) : (v >>> 4).toNat = v.toNat / 16 := shiftRight_toNat v 4

theorem shiftRight4_lt (v : Byte) : (v >>> 4).toNat < 16 := by
  rw [shiftRight4_toNat]
  exact Nat.div_lt_of_lt_mul v.isLt

/-- The low digit of `v`, and a digit below it. -/
theorem shiftLeft4_or_toNat (v b : Byte) (hb : b.toNat < 16) :
    (v <<< 4 ||| b).toNat = v.toNat % 16 * 16 + b.toNat := by
  have shifted : v.toNat * 16 % (16 * 16) = v.toNat % 16 * 16 := Nat.mul_mod_mul_right 16 v.toNat 16
  rw [← shifted]
  exact shiftLeft_or_toNat_add v b (by decide) hb

/-! ## Accumulator rotates (R600 to R603) -/

section
variable {i : Instr} {s : State} {n : Nat}

/-- An accumulator rotate has the result and the carry of the operation (R127), and keeps SF, ZF and PV. -/
theorem runs_rotateA {op : Byte → Bool → Byte × Named} {res : Nat → Nat} {cout : Nat → Bool}
    (hop : ShiftsTo op s.f.cf res cout) (h : exec i s = .next ((s.rotateA op).advance n)) :
    Runs i s fun t =>
      t.a.toNat = res s.a.toNat ∧ FlagsAre t s.f.sf s.f.zf false s.f.pv false (cout s.a.toNat) := by
  have carry : (op s.a s.f.cf).2.cf = cout s.a.toNat := congrArg Named.cf (hop.flags_eq s.a)
  exact ⟨_, h, hop.toNat_eq s.a, congrArg (Named.mk s.f.sf s.f.zf false s.f.pv false) carry⟩

/-- An instruction that writes `v` to DE and no flag, `v` seen as an unsigned or a signed number. -/
theorem runs_setDE_keepsF {α : Type} (view : Word → α) {v : Word} {x : α} (hv : view v = x)
    (h : exec i s = .next ((s.setDE v).advance n)) : Runs i s fun t => view t.de = x ∧ t.f = s.f := by
  obtain ⟨t, ht, hde, hf⟩ := runs_setPair_keepsF .de h
  exact ⟨t, ht, (congrArg view hde).trans hv, hf⟩

end

/-- Settles O38. -/
theorem accumulatorRotates : Obligations.AccumulatorRotates := fun s =>
  ⟨runs_rotateA (rlc_shiftsTo _) (exec_rlca s), runs_rotateA (rl_shiftsTo _) (exec_rla s),
    runs_rotateA (rrc_shiftsTo _) (exec_rrca s), runs_rotateA (rr_shiftsTo _) (exec_rra s)⟩

/-! ## Barrel shifts (R620 to R624) -/

/-- Settles O42: each is one write of DE, of a word operation whose count is `B` masked. -/
theorem barrelShifts : Obligations.BarrelShifts := by
  intro s
  refine ⟨runs_setDE_keepsF BitVec.toNat ?left (exec_bslaDEB s),
    runs_setDE_keepsF BitVec.toInt ?signed (exec_bsraDEB s),
    runs_setDE_keepsF BitVec.toNat ?unsigned (exec_bsrlDEB s),
    runs_setDE_keepsF BitVec.toNat ?ones (exec_bsrfDEB s),
    runs_setDE_keepsF BitVec.toNat ?rotate (exec_brlcDEB s)⟩
  case left => rw [BitVec.toNat_shiftLeft, Nat.shiftLeft_eq, s.amount_eq]
  case signed => rw [sshiftRight_toInt, s.amount_eq]
  case unsigned => rw [shiftRight_toNat, s.amount_eq]
  case ones => rw [shiftRight_ones_toNat, s.amount_eq]
  case rotate =>
    have count : s.b.toNat % 16 ≤ 16 := by omega
    rw [and_0F_toNat]
    exact rotateLeft_toNat s.de count

/-! ## Accumulator patterns (R625 to R627) -/

/-- The model appends the eight bits one by one, so the width is read as a sum of ones. -/
theorem mirror_getLsbD (v : Byte) (k : Nat) (hk : k < 8) : (mirror v).getLsbD k = v.getLsbD (7 - k) := by
  change BitVec.getLsbD (w := 1 + 1 + 1 + 1 + 1 + 1 + 1 + 1) (mirror v) k = _
  unfold mirror
  simp only [BitVec.getLsbD_append, BitVec.getLsbD_ofBool]
  interval_cases k <;> rfl

theorem swapnib_toNat (v : Byte) : (v <<< 4 ||| v >>> 4).toNat = v.toNat % 16 * 16 + v.toNat / 16 := by
  rw [shiftLeft4_or_toNat v _ (shiftRight4_lt v), shiftRight4_toNat]

/-- Bit 7 moved down, by a count of at most seven. -/
theorem setae_toNat (v : Byte) : ((0x80 : Byte) >>> (v &&& 7).toNat).toNat = 2 ^ (7 - v.toNat % 8) := by
  have count : v.toNat % 8 ≤ 7 := by omega
  rw [shiftRight_toNat, and_07_toNat]
  exact Nat.pow_div count Nat.two_pos

/-- Settles O43: each is one write of `A`. -/
theorem accumulatorPatterns : Obligations.AccumulatorPatterns := fun s =>
  ⟨⟨_, exec_mirrorA s, mirror_getLsbD s.a, rfl⟩, ⟨_, exec_swapnib s, swapnib_toNat s.a, rfl⟩,
    ⟨_, exec_setae s, setae_toNat s.e, rfl⟩⟩

end Sys2Proof.Machine
end

section
/-! PROOF. RLD and RRD (O39): the two are inverse functions on the byte at (HL) and `A`, and either instruction puts what
its function gives into both places. -/

namespace Sys2Proof.Machine

/-! ## Three digits, one place up or down -/

/-- What RLD makes of the memory byte and `A` (R614). -/
def digitsUp (p : Byte × Byte) : Byte × Byte := (p.1 <<< 4 ||| p.2 &&& 0x0F, p.2 &&& (0xF0 : Byte) ||| p.1 >>> 4)

/-- What RRD makes of the memory byte and `A` (R615). -/
def digitsDown (p : Byte × Byte) : Byte × Byte :=
  ((p.2 &&& 0x0F) <<< 4 ||| p.1 >>> 4, p.2 &&& (0xF0 : Byte) ||| p.1 &&& 0x0F)

/-- The mask `$F0` leaves the high nibble in its place. -/
theorem and_F0_eq (v : Byte) : v &&& (0xF0 : Byte) = (v >>> 4) <<< 4 := by
  have mask : (0xF0 : Byte) = BitVec.allOnes 8 <<< 4 := rfl
  rw [mask, BitVec.shiftLeft_ushiftRight]

/-- The high digit of `v`, and a digit below it. -/
theorem and_F0_or_toNat (v b : Byte) (hb : b.toNat < 16) :
    (v &&& (0xF0 : Byte) ||| b).toNat = v.toNat / 16 * 16 + b.toNat := by
  rw [and_F0_eq, shiftLeft4_or_toNat _ b hb, Nat.mod_eq_of_lt (shiftRight4_lt v), shiftRight4_toNat]

/-- What stands above the last digit. -/
theorem mul_add_div_of_lt {a b c : Nat} (h : c < b) : (a * b + c) / b = a := by
  rw [Nat.mul_comm, Nat.mul_add_div (Nat.zero_lt_of_lt h), Nat.div_eq_of_lt h, Nat.add_zero]

section
variable (p : Byte × Byte)

theorem digitsUp_mem_toNat : (digitsUp p).1.toNat = p.1.toNat % 16 * 16 + p.2.toNat % 16 := by
  rw [digitsUp, shiftLeft4_or_toNat _ _ (and_0F_lt p.2), and_0F_toNat]

theorem digitsUp_a_toNat : (digitsUp p).2.toNat = p.2.toNat / 16 * 16 + p.1.toNat / 16 := by
  rw [digitsUp, and_F0_or_toNat _ _ (shiftRight4_lt p.1), shiftRight4_toNat]

theorem digitsDown_mem_toNat : (digitsDown p).1.toNat = p.2.toNat % 16 * 16 + p.1.toNat / 16 := by
  rw [digitsDown, shiftLeft4_or_toNat _ _ (shiftRight4_lt p.1), shiftRight4_toNat, and_0F_toNat, Nat.mod_mod]

theorem digitsDown_a_toNat : (digitsDown p).2.toNat = p.2.toNat / 16 * 16 + p.1.toNat % 16 := by
  rw [digitsDown, and_F0_or_toNat _ _ (and_0F_lt p.1), and_0F_toNat]

/-- Each digit goes back to where it came from. -/
theorem digitsDown_digitsUp : digitsDown (digitsUp p) = p := by
  have high : p.1.toNat / 16 < 16 := Nat.div_lt_of_lt_mul p.1.isLt
  have low : p.2.toNat % 16 < 16 := Nat.mod_lt _ (by decide)
  apply Prod.ext <;> apply BitVec.eq_of_toNat_eq
  · rw [digitsDown_mem_toNat, digitsUp_mem_toNat, digitsUp_a_toNat, Nat.mul_add_mod_of_lt high,
      mul_add_div_of_lt low, Nat.div_add_mod']
  · rw [digitsDown_a_toNat, digitsUp_mem_toNat, digitsUp_a_toNat, mul_add_div_of_lt high,
      Nat.mul_add_mod_of_lt low, Nat.div_add_mod']

theorem digitsUp_digitsDown : digitsUp (digitsDown p) = p := by
  have high : p.1.toNat / 16 < 16 := Nat.div_lt_of_lt_mul p.1.isLt
  have low : p.1.toNat % 16 < 16 := Nat.mod_lt _ (by decide)
  apply Prod.ext <;> apply BitVec.eq_of_toNat_eq
  · rw [digitsUp_mem_toNat, digitsDown_mem_toNat, digitsDown_a_toNat, Nat.mul_add_mod_of_lt high,
      Nat.mul_add_mod_of_lt low, Nat.div_add_mod']
  · rw [digitsUp_a_toNat, digitsDown_mem_toNat, digitsDown_a_toNat, mul_add_div_of_lt high,
      mul_add_div_of_lt low, Nat.div_add_mod']

end

/-! ## The instructions -/

/-- The byte at (HL) and `A`. -/
def State.digitBytes (s : State) : Byte × Byte := (s.read s.hl, s.a)

/-- RLD or RRD, by what it makes of the two bytes. -/
def State.rotateDigits (s : State) (f : Byte × Byte → Byte × Byte) : State :=
  (s.nibbles (f s.digitBytes).1 (f s.digitBytes).2).advance 2

theorem exec_rld_eq (s : State) : exec .rld s = .next (s.rotateDigits digitsUp) := exec_rld s

theorem exec_rrd_eq (s : State) : exec .rrd s = .next (s.rotateDigits digitsDown) := exec_rrd s

section
variable {s : State} (f : Byte × Byte → Byte × Byte)

theorem State.rotateDigits_a (s : State) : (s.rotateDigits f).a = (f s.digitBytes).2 := rfl

theorem State.rotateDigits_hl (s : State) : (s.rotateDigits f).hl = s.hl := rfl

theorem State.rotateDigits_cfg (s : State) : (s.rotateDigits f).cfg = s.cfg := rfl

theorem State.rotateDigits_wf (hm : s.mem.wf = true) : (s.rotateDigits f).mem.wf = true := State.write_wf hm _ _

theorem State.rotateDigits_landed (hm : s.mem.wf = true) :
    Landed s (s.rotateDigits f) s.hl (f s.digitBytes).1 :=
  State.write_landed hm _ _

/-- The flags of R127 on the new `A`, with CF as it stood. -/
theorem State.rotateDigits_flags (s : State) :
    FlagsAre (s.rotateDigits f) (s.rotateDigits f).a.msb (decide ((s.rotateDigits f).a = 0)) false
      (decide (ones (s.rotateDigits f).a % 2 = 0)) false s.f.cf :=
  shiftFlags_eq _ _

/-- Where (HL) is writable, both bytes are then what `f` gave. -/
theorem State.rotateDigits_digitBytes (hm : s.mem.wf = true) (hw : writable s.cfg s.hl = true) :
    (s.rotateDigits f).digitBytes = f s.digitBytes := by
  rw [State.digitBytes, State.rotateDigits_hl, State.rotateDigits_landed f hm, if_pos ⟨rfl, hw⟩,
    State.rotateDigits_a]

/-- Where `g` is inverse to `f`, its instruction undoes that of `f`. -/
theorem State.rotateDigits_undo {g : Byte × Byte → Byte × Byte} (hgf : ∀ p, g (f p) = p) (hm : s.mem.wf = true)
    (hw : writable s.cfg s.hl = true) :
    ((s.rotateDigits f).rotateDigits g).a = s.a ∧
      ∀ x, ((s.rotateDigits f).rotateDigits g).read x = s.read x := by
  have back : g (s.rotateDigits f).digitBytes = s.digitBytes := by
    rw [State.rotateDigits_digitBytes f hm hw, hgf]
  refine ⟨?accumulator, fun x => ?memory⟩
  case accumulator =>
    rw [State.rotateDigits_a, back]
    rfl
  case memory =>
    rw [State.rotateDigits_landed g (State.rotateDigits_wf f hm), State.rotateDigits_landed f hm, back,
      State.rotateDigits_hl, State.rotateDigits_cfg]
    by_cases hx : x = s.hl
    · subst hx
      rw [if_pos ⟨rfl, hw⟩]
      rfl
    · simp only [hx, false_and, if_false]

end

/-- Settles O39. -/
theorem nibbleRotates : Obligations.NibbleRotates := by
  intro s hm
  refine ⟨⟨_, exec_rld_eq s, ?upA, ?upMem, s.rotateDigits_flags _⟩,
    ⟨_, exec_rrd_eq s, ?downA, ?downMem, s.rotateDigits_flags _⟩, fun hw =>
    ⟨⟨_, exec_rld_eq s, _, exec_rrd_eq _, State.rotateDigits_undo _ digitsDown_digitsUp hm hw⟩,
      ⟨_, exec_rrd_eq s, _, exec_rld_eq _, State.rotateDigits_undo _ digitsUp_digitsDown hm hw⟩⟩⟩
  case upA => exact digitsUp_a_toNat s.digitBytes
  case downA => exact digitsDown_a_toNat s.digitBytes
  case upMem =>
    have landed := State.rotateDigits_landed digitsUp hm
    rw [eq_ofNat (digitsUp_mem_toNat _)] at landed
    exact landed
  case downMem =>
    have landed := State.rotateDigits_landed digitsDown hm
    rw [eq_ofNat (digitsDown_mem_toNat _)] at landed
    exact landed

end Sys2Proof.Machine
end

section
/-! PROOF. BIT, SET and RES (O40, O41): what SET and RES make of a byte, bit by bit, then one lemma per kind of operand
for both. -/

namespace Sys2Proof.Machine

/-! ## BIT (R616) -/

theorem State.get_testBit (s : State) (b : BitVec 3) (v : Byte) (k : Reg8) : (s.testBit b v).get k = s.get k := by
  cases k <;> rfl

theorem runs_testBit {i : Instr} {s : State} {n : Nat} {b : BitVec 3} {v : Byte}
    (h : exec i s = .next ((s.testBit b v).advance n)) :
    Runs i s fun t =>
      t.f.zf = !v.getLsbD b.toNat ∧ t.f.hf = true ∧ t.f.nf = false ∧ t.f.cf = s.f.cf ∧ t.mem = s.mem ∧
      ∀ k, t.get k = s.get k :=
  ⟨_, h, rfl, rfl, rfl, rfl, rfl, fun k => by rw [State.get_advance, State.get_testBit]⟩

/-- Settles O40. -/
theorem bitTests : Obligations.BitTests := fun s b =>
  ⟨fun r => runs_testBit (exec_bitBR b r s), runs_testBit (exec_bitBAtHL b s),
    fun d => runs_testBit (exec_bitBAtIXd b d s), fun d => runs_testBit (exec_bitBAtIYd b d s)⟩

/-! ## SET and RES (R617 to R619) -/

/-- `w` is `v` with bit `b` made `x`. -/
def HasBit (b : BitVec 3) (x : Bool) (v w : Byte) : Prop :=
  ∀ k, k < 8 → w.getLsbD k = if k = b.toNat then x else v.getLsbD k

theorem bitMask_getLsbD (b : BitVec 3) (k : Nat) : (bitMask b).getLsbD k = decide (k = b.toNat) := by
  have mask : bitMask b = BitVec.twoPow 8 b.toNat := (BitVec.twoPow_eq 8 b.toNat).symm
  rw [mask, BitVec.getLsbD_twoPow, decide_eq_true b.isLt, Bool.true_and, decide_eq_decide]
  exact eq_comm

theorem setBit_hasBit (b : BitVec 3) (v : Byte) : HasBit b true v (setBit b v) := by
  intro k _
  rw [setBit, BitVec.getLsbD_or, bitMask_getLsbD]
  by_cases hk : k = b.toNat <;> simp [hk]

theorem resBit_hasBit (b : BitVec 3) (v : Byte) : HasBit b false v (resBit b v) := by
  intro k hlt
  rw [resBit, BitVec.getLsbD_and, BitVec.getLsbD_not, bitMask_getLsbD]
  by_cases hk : k = b.toNat <;> simp [hk, hlt]

section
variable {i : Instr} {s : State} {n : Nat} {b : BitVec 3} {x : Bool} {op : Byte → Byte}

theorem runs_mapReg (hop : ∀ v, HasBit b x v (op v)) {k : Reg8}
    (h : exec i s = .next ((s.mapReg op k).advance n)) :
    Runs i s fun t => HasBit b x (s.get k) (t.get k) ∧ t.f = s.f := by
  refine ⟨_, h, ?bits, rfl⟩
  case bits =>
    rw [State.get_advance, State.mapReg, State.get_set, if_pos rfl]
    exact hop (s.get k)

theorem runs_mapAt (hop : ∀ v, HasBit b x v (op v)) (hm : s.mem.wf = true) {y : Word}
    (h : exec i s = .next ((s.mapAt op y).advance n)) :
    Runs i s fun t => ∃ w, HasBit b x (s.read y) w ∧ Landed s t y w ∧ t.f = s.f :=
  ⟨_, h, op (s.read y), hop (s.read y), State.write_landed hm y _, rfl⟩

theorem runs_mapAtCopy (hop : ∀ v, HasBit b x v (op v)) (hm : s.mem.wf = true) {y : Word} {k : Reg8}
    (h : exec i s = .next ((s.mapAtCopy op y k).advance n)) :
    Runs i s fun t => HasBit b x (s.read y) (t.get k) ∧ Landed s t y (t.get k) ∧ t.f = s.f := by
  have copied : ((s.mapAtCopy op y k).advance n).get k = op (s.read y) := by
    rw [State.get_advance, State.mapAtCopy, State.get_set, if_pos rfl]
  refine ⟨_, h, ?bits, ?lands, rfl⟩
  case bits =>
    rw [copied]
    exact hop (s.read y)
  case lands =>
    rw [copied]
    exact State.write_landed hm y _

end

/-- Settles O41: SET and RES on a register, on the three kinds of address, then the forms that copy. -/
theorem bitWrites : Obligations.BitWrites := by
  intro s b hm
  have hset := setBit_hasBit b
  have hres := resBit_hasBit b
  exact ⟨fun r => runs_mapReg hset (exec_setBR b r s), fun r => runs_mapReg hres (exec_resBR b r s),
    ⟨runs_mapAt hset hm (exec_setBAtHL b s), fun d => runs_mapAt hset hm (exec_setBAtIXd b d s),
      fun d => runs_mapAt hset hm (exec_setBAtIYd b d s)⟩,
    ⟨runs_mapAt hres hm (exec_resBAtHL b s), fun d => runs_mapAt hres hm (exec_resBAtIXd b d s),
      fun d => runs_mapAt hres hm (exec_resBAtIYd b d s)⟩,
    fun d r => runs_mapAtCopy hset hm (exec_setBAtIXdR b d r s),
    fun d r => runs_mapAtCopy hset hm (exec_setBAtIYdR b d r s),
    fun d r => runs_mapAtCopy hres hm (exec_resBAtIXdR b d r s),
    fun d r => runs_mapAtCopy hres hm (exec_resBAtIYdR b d r s)⟩

end Sys2Proof.Machine
end

section
/-! PROOF. The conditions by their flags and codes (O15). -/

namespace Sys2Proof

/-- The pairs that O15 lists are a condition with its code in table CC. -/
theorem eq_code_of_mem_table {k : Nat} {cc : Cond}
    (h : (k, cc) ∈ [(0, Cond.nz), (1, .z), (2, .nc), (3, .c), (4, .po), (5, .pe), (6, .p), (7, .m)]) :
    k = cc.code :=
  (by decide : ∀ entry ∈ _, Prod.fst entry = (Prod.snd entry).code) _ h

theorem Cond.relative_iff (cc : Cond) : cc.relative = true ↔ cc ∈ [Cond.c, .nc, .z, .nz] := by
  cases cc <;> decide

/-- An instruction's own bytes decode to it: O5 with nothing after them. -/
theorem decode_of_encode_eq {i : Instr} {bytes : List Byte} (wf : WellFormed i = true) (h : encode i = bytes) :
    decode bytes = .instr i := by
  have decoded := decodeEncode i [] wf
  rwa [List.append_nil, h] at decoded

/-- An opcode byte and a 16-bit operand, given by the bytes that carry it. -/
theorem decode_of_encode_word {k : Word → Instr} {op : Byte} (wf : ∀ nn, WellFormed (k nn) = true)
    (h : ∀ nn, encode (k nn) = [op, lo nn, hi nn]) (l u : Byte) : decode [op, l, u] = .instr (k (join u l)) := by
  refine decode_of_encode_eq (wf _) ?_
  rw [h, lo_join, hi_join]

/-- Settles O15: the flags are the definition's, the codes the encoder's. -/
theorem conditionsReadFlags : Obligations.ConditionsReadFlags := by
  refine ⟨fun _ => ⟨rfl, rfl, rfl, rfl, rfl, rfl, rfl, rfl⟩, ?codes,
    fun _ => ⟨rfl, rfl, rfl, rfl⟩, fun cc _ => cc.relative_iff⟩
  case codes =>
    intro k cc l u table
    obtain rfl := eq_code_of_mem_table table
    exact ⟨decode_of_encode_word (k := .jpCondNN cc) (fun _ => rfl) (fun _ => rfl) l u,
      decode_of_encode_word (k := .callCondNN cc) (fun _ => rfl) (fun _ => rfl) l u,
      decode_of_encode_eq rfl rfl⟩

end Sys2Proof
end

section
/-! PROOF. Jumps (O45), calls and returns (O46, O47): where each goes, for either outcome of a condition, and then what
entering pushes and leaving pops. -/

namespace Sys2Proof.Machine

/-! ## Jumps (R701 to R708) -/

/-- Two ways to go on differ in the program counter only. -/
theorem State.ite_goto (s : State) (c : Prop) [Decidable c] (x y : Word) :
    (if c then s.goto x else s.goto y) = s.goto (if c then x else y) :=
  (apply_ite s.goto c x y).symm

theorem exec_jpCondNN_eq (cc : Cond) (nn : Word) (s : State) :
    exec (.jpCondNN cc nn) s = .next (s.goto (if s.cond cc then nn else s.npc 3)) :=
  congrArg _ (s.ite_goto _ nn (s.npc 3))

theorem exec_jrCondE_eq (cc : Cond) (e : Byte) (s : State) :
    exec (.jrCondE cc e) s = .next (s.goto (if s.cond cc then s.relative e else s.npc 2)) :=
  congrArg _ (s.ite_goto _ (s.relative e) (s.npc 2))

/-- DJNZ stays exactly where `B` was 1 (R708). -/
theorem exec_djnzE_eq (e : Byte) (s : State) :
    exec (.djnzE e) s = .next ((s.set .b (s.b - 1)).goto (if s.b = 1 then s.npc 2 else s.relative e)) := by
  have last : (s.b - 1 != 0) = true ↔ ¬ s.b = 1 := bne_iff_ne.trans sub_ne_zero
  refine congrArg _ (((s.set .b (s.b - 1)).ite_goto _ (s.relative e) (s.npc 2)).trans (congrArg _ ?_))
  exact (if_congr last rfl rfl).trans (ite_not _ _ _)

/-- The mask `$C000` leaves the upper two bits in their place. -/
theorem and_C000_eq (x : Word) : x &&& (0xC000 : Word) = (x >>> 14) <<< 14 := by
  have mask : (0xC000 : Word) = BitVec.allOnes 16 <<< 14 := rfl
  rw [mask, BitVec.shiftLeft_ushiftRight]

theorem zext16_shiftLeft6_toNat (v : Byte) : (zext16 v <<< 6).toNat = 64 * v.toNat := by
  have hv := v.isLt
  rw [BitVec.toNat_shiftLeft, Nat.shiftLeft_eq, zext16_toNat]
  omega

/-- Where JP (C) goes: 64 times the byte read, inside the 16K block (R705). -/
theorem block_or_toNat (x : Word) (v : Byte) :
    (x &&& (0xC000 : Word) ||| zext16 v <<< 6).toNat = x.toNat / 16384 * 16384 + 64 * v.toNat := by
  have hx := x.isLt
  have inBlock : (zext16 v <<< 6).toNat < 2 ^ 14 := by
    have hv := v.isLt
    rw [zext16_shiftLeft6_toNat]
    omega
  rw [and_C000_eq, shiftLeft_or_toNat_add _ _ (by decide) inBlock, shiftRight_toNat, zext16_shiftLeft6_toNat]
  omega

/-- Settles O45: jumps by their targets, DJNZ with its count, JP (C) with its event. -/
theorem jumpResults : Obligations.JumpResults := fun s =>
  ⟨fun nn => exec_jpNN nn s, fun cc nn => exec_jpCondNN_eq cc nn s, exec_jpAtHL s, exec_jpAtIX s, exec_jpAtIY s,
    fun e => exec_jrE e s, fun cc e => exec_jrCondE_eq cc e s, fun e => exec_djnzE_eq e s,
    _, exec_jpAtC s, s.portAnswer s.bc, rfl, block_or_toNat (s.npc 2) _⟩

/-! ## Calls and returns (R709 to R713, R855, R856) -/

section
variable {s : State} {cc : Cond}

theorem exec_callCondNN_taken (h : s.cond cc = true) (nn : Word) :
    exec (.callCondNN cc nn) s = .next (s.enter (s.npc 3) nn) :=
  congrArg _ (if_pos h)

theorem exec_callCondNN_skipped (h : s.cond cc = false) (nn : Word) :
    exec (.callCondNN cc nn) s = .next (s.advance 3) :=
  congrArg _ (if_neg (ne_true_of_eq_false h))

theorem exec_retCond_taken (h : s.cond cc = true) : exec (.retCond cc) s = .next s.leave :=
  congrArg _ (if_pos h)

theorem exec_retCond_skipped (h : s.cond cc = false) : exec (.retCond cc) s = .next (s.advance 1) :=
  congrArg _ (if_neg (ne_true_of_eq_false h))

theorem runs_enter {i : Instr} {ret target : Word} (hm : s.mem.wf = true)
    (h : exec i s = .next (s.enter ret target)) : Runs i s fun t => Pushed s t ret ∧ t.pc = target :=
  ⟨_, h, State.push_pushed hm ret, rfl⟩

end

/-- The target of RST is 8 times its field (R713). -/
theorem rstTarget_eq (v : BitVec 3) : v.zeroExtend 16 <<< 3 = BitVec.ofNat 16 (8 * v.toNat) := by
  have hv := v.isLt
  apply BitVec.eq_of_toNat_eq
  rw [BitVec.toNat_shiftLeft, Nat.shiftLeft_eq, BitVec.toNat_setWidth_of_le (by decide), BitVec.toNat_ofNat,
    Nat.mul_comm]

/-- Settles O46: CALL and RST enter, the returns leave, and a condition that fails only advances. -/
theorem callsAndReturns : Obligations.CallsAndReturns := by
  intro s hm
  refine ⟨fun nn => runs_enter hm (exec_callNN nn s),
    fun _ nn taken => runs_enter hm (exec_callCondNN_taken taken nn),
    fun _ nn skipped => exec_callCondNN_skipped skipped nn, fun v => ?rst,
    exec_ret s, fun _ taken => exec_retCond_taken taken, fun _ skipped => exec_retCond_skipped skipped,
    exec_reti s, exec_retn s⟩
  case rst =>
    rw [← rstTarget_eq]
    exact runs_enter hm (exec_rstN v s)

/-- What was entered with is on top, where both bytes can be written. -/
theorem State.top_enter {s : State} (hm : s.mem.wf = true) (ret target : Word)
    (hHigh : writable s.cfg (s.sp - 1) = true) (hLow : writable s.cfg (s.sp - 2) = true) :
    (s.enter ret target).top = ret :=
  State.top_push hm ret hHigh hLow

/-- Settles O47: RET pops what CALL left on top, and `SP` moves by 2 and back. -/
theorem callThenReturn : Obligations.CallThenReturn := fun s nn hm hHigh hLow =>
  ⟨_, exec_callNN nn s, rfl, _, exec_ret _, State.top_enter hm _ nn hHigh hLow, BitVec.sub_add_cancel s.sp 2⟩

end Sys2Proof.Machine
end

section
/-! PROOF. What the run of LDIR over a block is said in (O51): where it may begin, what it has done when it ends, and what
each pass does. -/

namespace Sys2Proof.Machine

/-- The last `n` passes of LDIR are still to be made, in RAM, and no byte that they read is one that they write. -/
structure LdirReady (n : Nat) (s : State) : Prop where
  mem_wf : s.mem.wf = true
  ram : s.cfg.rom = []
  count : s.bc.toNat = n
  apart : ∀ j k : Nat, j < n → k < n → s.de + BitVec.ofNat 16 j ≠ s.hl + BitVec.ofNat 16 k

/-- From `s` to `t`, `n` bytes at `HL` have been copied to `DE` by passes of LDIR, the last of which has moved on. -/
structure BlockCopied (n : Nat) (s t : State) : Prop where
  bc : t.bc = 0
  hl : t.hl = s.hl + BitVec.ofNat 16 n
  de : t.de = s.de + BitVec.ofNat 16 n
  pc : t.pc = if n = 0 then s.pc else s.pc + 2
  copied : ∀ k : Nat, k < n → t.read (s.de + BitVec.ofNat 16 k) = s.read (s.hl + BitVec.ofNat 16 k)
  kept : ∀ x, (∀ k : Nat, k < n → x ≠ s.de + BitVec.ofNat 16 k) → t.read x = s.read x

/-- What a pass in RAM leaves, from what it does in any memory (O48) and from its frame (O11, O12). -/
structure LdirPass (s u : State) : Prop where
  mem_wf : u.mem.wf = true
  cfg : u.cfg = s.cfg
  read : ∀ x, u.read x = if x = s.de then s.read s.hl else s.read x
  moved : Moved s u 1 1 (-1)
  pc : u.pc = if u.bc = 0 then s.pc + 2 else s.pc

end Sys2Proof.Machine
end

section
/-! PROOF. Block copies and searches, one pass each (O48, O49, O50). Every instruction of the family but
LDWS is a body and then a jump: past itself, or back to itself until it stops. What each body does is said once, and
holds with either jump. -/

namespace Sys2Proof.Machine

/-! ## After a body (R758) -/

/-- Past the instruction, where `t` is what its body makes of `s`. -/
theorem State.advance_two {s t : State} (hpc : t.pc = s.pc) : t.advance 2 = t.goto (s.pc + 2) := by
  rw [← hpc]
  rfl

/-- Stopping or not differs in the program counter only. -/
theorem State.repeatUnless_eq_goto {s t : State} (hpc : t.pc = s.pc) {stop : Bool} {c : Prop} [Decidable c]
    (h : stop = true ↔ c) : t.repeatUnless stop = t.goto (if c then s.pc + 2 else s.pc) := by
  rw [← t.ite_goto, ← hpc]
  exact if_congr h rfl rfl

/-- Where a repeating copy goes on, by the count that its body leaves. -/
def State.afterCopy (s : State) (count : Word) : Word := if count = 0 then s.pc + 2 else s.pc

/-- Where a repeating search goes on: the byte at (HL) may end it too. -/
def State.afterSearch (s : State) (count : Word) : Word :=
  if count = 0 ∨ s.a = s.read s.hl then s.pc + 2 else s.pc

theorem State.repeatUnless_bc {s t : State} (hpc : t.pc = s.pc) (hbc : t.bc = s.bc - 1) :
    t.repeatUnless (t.bc == 0) = t.goto (s.afterCopy (s.bc - 1)) := by
  rw [← hbc]
  exact State.repeatUnless_eq_goto hpc beq_iff_eq

/-- The count of a body, as the statements write it. -/
theorem join_pred (v : Word) : join (hi (v - 1)) (lo (v - 1)) = v + -1 := (join_hi_lo _).trans (sub_eq_add_neg v 1)

theorem bne_zero_eq_decide (v : Word) : (v != 0) = decide (v ≠ 0) :=
  (congrArg not (beq_eq_decide v 0)).trans (decide_not).symm

/-- What a body does after its store leaves memory alone. -/
theorem Landed.of_mem_eq {s t u : State} {x : Word} {v : Byte} (h : Landed s t x v) (hu : u.mem = t.mem) :
    Landed s u x v :=
  fun y => (congrArg (Memory.read · y.toNat) hu).trans (h y)

/-! ## Copies (R750 to R753) -/

section
variable (s : State) (k : Word)

theorem State.copyByte_pc : (s.copyByte k).pc = s.pc := by
  rw [State.copyByte, State.setFlags_pc, State.setBC_pc, State.setDE_pc, State.setHL_pc, State.write_pc]

theorem State.copyByte_mem : (s.copyByte k).mem = (s.write s.de (s.read s.hl)).mem := by
  rw [State.copyByte, State.setFlags_mem, State.setBC_mem, State.setDE_mem, State.setHL_mem]

theorem State.copyByte_bc : (s.copyByte k).bc = s.bc - 1 := join_hi_lo _

theorem State.copyByte_moved : Moved s (s.copyByte k) k k (-1) := ⟨join_hi_lo _, join_hi_lo _, join_pred _⟩

/-- PV is the new count's. -/
theorem State.copyByte_flags :
    FlagsAre (s.copyByte k) s.f.sf s.f.zf false (decide ((s.copyByte k).bc ≠ 0)) false s.f.cf := by
  rw [s.copyByte_bc, ← bne_zero_eq_decide]
  rfl

theorem State.copyByte_landed (hm : s.mem.wf = true) : Landed s (s.copyByte k) s.de (s.read s.hl) :=
  (State.write_landed hm s.de _).of_mem_eq (s.copyByte_mem k)

end

theorem runs_copyByte {i : Instr} {s : State} {k : Word} (pc : Word → Word) (hm : s.mem.wf = true)
    (h : exec i s = .next ((s.copyByte k).goto (pc (s.bc - 1)))) :
    Runs i s fun t =>
      Landed s t s.de (s.read s.hl) ∧ Moved s t k k (-1) ∧
      FlagsAre t s.f.sf s.f.zf false (decide (t.bc ≠ 0)) false s.f.cf ∧ t.pc = pc t.bc :=
  ⟨_, h, s.copyByte_landed k hm, s.copyByte_moved k, s.copyByte_flags k, congrArg pc (s.copyByte_bc k).symm⟩

theorem exec_ldi_eq (s : State) : exec .ldi s = .next ((s.copyByte 1).goto (s.pc + 2)) := by
  rw [exec_ldi, execLdi, State.advance_two (s.copyByte_pc 1)]

theorem exec_ldd_eq (s : State) : exec .ldd s = .next ((s.copyByte (-1)).goto (s.pc + 2)) := by
  rw [exec_ldd, execLdd, State.advance_two (s.copyByte_pc (-1))]

theorem exec_ldir_eq (s : State) : exec .ldir s = .next ((s.copyByte 1).goto (s.afterCopy (s.bc - 1))) :=
  congrArg _ (State.repeatUnless_bc (s.copyByte_pc 1) (s.copyByte_bc 1))

theorem exec_lddr_eq (s : State) : exec .lddr s = .next ((s.copyByte (-1)).goto (s.afterCopy (s.bc - 1))) :=
  congrArg _ (State.repeatUnless_bc (s.copyByte_pc (-1)) (s.copyByte_bc (-1)))

/-- Settles O48. -/
theorem blockCopies : Obligations.BlockCopies := fun s hm =>
  ⟨runs_copyByte (fun _ => s.pc + 2) hm (exec_ldi_eq s), runs_copyByte (fun _ => s.pc + 2) hm (exec_ldd_eq s),
    runs_copyByte s.afterCopy hm (exec_ldir_eq s), runs_copyByte s.afterCopy hm (exec_lddr_eq s)⟩

/-! ## Searches (R754 to R757) -/

section
variable (s : State) (k : Word)

theorem State.compareByte_pc : (s.compareByte k).pc = s.pc := by
  rw [State.compareByte, State.setFlags_pc, State.setBC_pc, State.setHL_pc]

theorem State.compareByte_bc : (s.compareByte k).bc = s.bc - 1 := join_hi_lo _

theorem State.compareByte_moved : Moved s (s.compareByte k) k 0 (-1) :=
  ⟨join_hi_lo _, (add_zero s.de).symm, join_pred _⟩

theorem State.compareByte_zf : (s.compareByte k).f.zf = decide (s.a = s.read s.hl) := by
  have zero : (s.compareByte k).f.zf = decide ((sub8 s.a (s.read s.hl) false).1 = 0) :=
    congrArg Named.zf (sub8_flags s.a (s.read s.hl) false)
  rw [zero, sub8_result, decide_eq_decide]
  exact sub_eq_zero

/-- The flags of the difference (R122), but PV, which is the new count's, and CF, which stays. -/
theorem State.compareByte_flags :
    FlagsAre (s.compareByte k) (s.a - s.read s.hl).msb (decide (s.a = s.read s.hl))
      (decide (s.a.toNat % 16 < (s.read s.hl).toNat % 16)) (decide ((s.compareByte k).bc ≠ 0)) true s.f.cf := by
  rw [s.compareByte_bc, ← bne_zero_eq_decide, ← s.compareByte_zf k, ← sub8_result]
  rfl

/-- A search stops at the last byte, or where ZF says that the byte was found. -/
theorem State.compareByte_repeat :
    (s.compareByte k).repeatUnless ((s.compareByte k).bc == 0 || (s.compareByte k).f.zf) =
      (s.compareByte k).goto (s.afterSearch (s.bc - 1)) := by
  refine State.repeatUnless_eq_goto (s.compareByte_pc k) ?_
  rw [s.compareByte_bc, s.compareByte_zf, Bool.or_eq_true, beq_iff_eq, decide_eq_true_iff]

end

theorem runs_compareByte {i : Instr} {s : State} {k : Word} (pc : Word → Word)
    (h : exec i s = .next ((s.compareByte k).goto (pc (s.bc - 1)))) :
    Runs i s fun t =>
      Moved s t k 0 (-1) ∧ t.a = s.a ∧ t.mem = s.mem ∧
      FlagsAre t (s.a - s.read s.hl).msb (decide (s.a = s.read s.hl))
        (decide (s.a.toNat % 16 < (s.read s.hl).toNat % 16)) (decide (t.bc ≠ 0)) true s.f.cf ∧ t.pc = pc t.bc :=
  ⟨_, h, s.compareByte_moved k, rfl, rfl, s.compareByte_flags k, congrArg pc (s.compareByte_bc k).symm⟩

theorem exec_cpi_eq (s : State) : exec .cpi s = .next ((s.compareByte 1).goto (s.pc + 2)) := by
  rw [exec_cpi, execCpi, State.advance_two (s.compareByte_pc 1)]

theorem exec_cpd_eq (s : State) : exec .cpd s = .next ((s.compareByte (-1)).goto (s.pc + 2)) := by
  rw [exec_cpd, execCpd, State.advance_two (s.compareByte_pc (-1))]

theorem exec_cpir_eq (s : State) : exec .cpir s = .next ((s.compareByte 1).goto (s.afterSearch (s.bc - 1))) :=
  congrArg _ (s.compareByte_repeat 1)

theorem exec_cpdr_eq (s : State) :
    exec .cpdr s = .next ((s.compareByte (-1)).goto (s.afterSearch (s.bc - 1))) :=
  congrArg _ (s.compareByte_repeat (-1))

/-- Settles O49. -/
theorem blockSearches : Obligations.BlockSearches := fun s =>
  ⟨runs_compareByte (fun _ => s.pc + 2) (exec_cpi_eq s), runs_compareByte (fun _ => s.pc + 2) (exec_cpd_eq s),
    runs_compareByte s.afterSearch (exec_cpir_eq s), runs_compareByte s.afterSearch (exec_cpdr_eq s)⟩

/-! ## Copies of the Next (R759 to R764) -/

/-- `v` has landed at `DE`, or it equals `A` and memory is as before (R759). -/
def PutUnlessA (s t : State) (v : Byte) : Prop := if v = s.a then ∀ x, t.read x = s.read x else Landed s t s.de v

theorem State.storeUnlessA_put {s : State} (hm : s.mem.wf = true) (v : Byte) : PutUnlessA s (s.storeUnlessA v) v := by
  unfold PutUnlessA State.storeUnlessA
  by_cases hv : v = s.a
  case pos => simp only [hv, bne_self_eq_false, Bool.false_eq_true, if_false, if_true, implies_true]
  case neg =>
    simp only [bne_iff_ne.2 hv, hv, if_true, if_false]
    exact State.write_landed hm s.de v

/-! Stored or not, nothing but memory changes. -/

theorem State.storeUnlessA_f (s : State) (v : Byte) : (s.storeUnlessA v).f = s.f := by
  rw [State.storeUnlessA, apply_ite State.f, State.write_f, ite_self]

theorem State.storeUnlessA_pc (s : State) (v : Byte) : (s.storeUnlessA v).pc = s.pc := by
  rw [State.storeUnlessA, apply_ite State.pc, State.write_pc, ite_self]

theorem State.storeUnlessA_hl (s : State) (v : Byte) : (s.storeUnlessA v).hl = s.hl := by
  rw [State.storeUnlessA, apply_ite State.hl, State.write_pair_hl, ite_self]

theorem PutUnlessA.of_mem_eq {s t u : State} {v : Byte} (h : PutUnlessA s t v) (hu : u.mem = t.mem) :
    PutUnlessA s u v := by
  have reads : u.read = t.read := by
    unfold State.read
    rw [hu]
  unfold PutUnlessA Landed
  rw [reads]
  exact h

section
variable (s : State) (k : Word)

theorem State.maskedCopy_f : (s.maskedCopy k).f = s.f := by
  rw [State.maskedCopy, State.setBC_f, State.setDE_f, State.setHL_f, s.storeUnlessA_f]

theorem State.maskedCopy_pc : (s.maskedCopy k).pc = s.pc := by
  rw [State.maskedCopy, State.setBC_pc, State.setDE_pc, State.setHL_pc, s.storeUnlessA_pc]

theorem State.maskedCopy_mem : (s.maskedCopy k).mem = (s.storeUnlessA (s.read s.hl)).mem := by
  rw [State.maskedCopy, State.setBC_mem, State.setDE_mem, State.setHL_mem]

theorem State.maskedCopy_bc : (s.maskedCopy k).bc = s.bc - 1 := join_hi_lo _

theorem State.maskedCopy_moved : Moved s (s.maskedCopy k) k 1 (-1) := ⟨join_hi_lo _, join_hi_lo _, join_pred _⟩

theorem State.maskedCopy_put (hm : s.mem.wf = true) : PutUnlessA s (s.maskedCopy k) (s.read s.hl) :=
  (State.storeUnlessA_put hm _).of_mem_eq (s.maskedCopy_mem k)

end

theorem runs_maskedCopy {i : Instr} {s : State} {k : Word} (pc : Word → Word) (hm : s.mem.wf = true)
    (h : exec i s = .next ((s.maskedCopy k).goto (pc (s.bc - 1)))) :
    Runs i s fun t => PutUnlessA s t (s.read s.hl) ∧ Moved s t k 1 (-1) ∧ t.f = s.f ∧ t.pc = pc t.bc :=
  ⟨_, h, (s.maskedCopy_put k hm).of_mem_eq (State.goto_mem _ _), s.maskedCopy_moved k, s.maskedCopy_f k,
    congrArg pc (s.maskedCopy_bc k).symm⟩

theorem exec_ldix_eq (s : State) : exec .ldix s = .next ((s.maskedCopy 1).goto (s.pc + 2)) := by
  rw [exec_ldix, execLdix, State.advance_two (s.maskedCopy_pc 1)]

theorem exec_lddx_eq (s : State) : exec .lddx s = .next ((s.maskedCopy (-1)).goto (s.pc + 2)) := by
  rw [exec_lddx, execLddx, State.advance_two (s.maskedCopy_pc (-1))]

theorem exec_ldirx_eq (s : State) : exec .ldirx s = .next ((s.maskedCopy 1).goto (s.afterCopy (s.bc - 1))) :=
  congrArg _ (State.repeatUnless_bc (s.maskedCopy_pc 1) (s.maskedCopy_bc 1))

theorem exec_lddrx_eq (s : State) : exec .lddrx s = .next ((s.maskedCopy (-1)).goto (s.afterCopy (s.bc - 1))) :=
  congrArg _ (State.repeatUnless_bc (s.maskedCopy_pc (-1)) (s.maskedCopy_bc (-1)))

/-! ### LDPIRX (R763) -/

/-- The mask `$FFF8` leaves all but the low three bits in their place. -/
theorem and_FFF8_eq (x : Word) : x &&& (0xFFF8 : Word) = (x >>> 3) <<< 3 := by
  have mask : (0xFFF8 : Word) = BitVec.allOnes 16 <<< 3 := rfl
  rw [mask, BitVec.shiftLeft_ushiftRight]

theorem State.patternAddress_toNat (s : State) :
    s.patternAddress.toNat = s.hl.toNat / 8 * 8 + s.de.toNat % 8 := by
  have hhl := s.hl.isLt
  have low : (s.de &&& (0x0007 : Word)).toNat = s.de.toNat % 8 := Nat.and_two_pow_sub_one_eq_mod s.de.toNat 3
  have inPattern : (s.de &&& (0x0007 : Word)).toNat < 2 ^ 3 := by
    rw [low]
    exact Nat.mod_lt _ (by decide)
  rw [State.patternAddress, and_FFF8_eq, shiftLeft_or_toNat_add _ _ (by decide) inPattern, shiftRight_toNat, low]
  omega

theorem State.patternAddress_eq (s : State) :
    s.patternAddress = BitVec.ofNat 16 (s.hl.toNat / 8 * 8 + s.de.toNat % 8) := by
  rw [← s.patternAddress_toNat, BitVec.ofNat_toNat, BitVec.setWidth_eq]

section
variable (s : State)

theorem State.patternCopy_f : s.patternCopy.f = s.f := by
  rw [State.patternCopy, State.setBC_f, State.setDE_f, s.storeUnlessA_f]

theorem State.patternCopy_pc : s.patternCopy.pc = s.pc := by
  rw [State.patternCopy, State.setBC_pc, State.setDE_pc, s.storeUnlessA_pc]

theorem State.patternCopy_mem : s.patternCopy.mem = (s.storeUnlessA (s.read s.patternAddress)).mem := by
  rw [State.patternCopy, State.setBC_mem, State.setDE_mem]

theorem State.patternCopy_hl : s.patternCopy.hl = s.hl := by
  rw [State.patternCopy, State.setBC_pair_hl, State.setDE_pair_hl, s.storeUnlessA_hl]

theorem State.patternCopy_bc : s.patternCopy.bc = s.bc - 1 := join_hi_lo _

theorem State.patternCopy_moved : Moved s s.patternCopy 0 1 (-1) :=
  ⟨s.patternCopy_hl.trans (add_zero s.hl).symm, join_hi_lo _, join_pred _⟩

end

theorem runs_patternCopy {i : Instr} {s : State} (pc : Word → Word) (hm : s.mem.wf = true)
    (h : exec i s = .next (s.patternCopy.goto (pc (s.bc - 1)))) :
    Runs i s fun t =>
      PutUnlessA s t (s.read (BitVec.ofNat 16 (s.hl.toNat / 8 * 8 + s.de.toNat % 8))) ∧ Moved s t 0 1 (-1) ∧
      t.f = s.f ∧ t.pc = pc t.bc := by
  rw [← s.patternAddress_eq]
  exact ⟨_, h, (State.storeUnlessA_put hm _).of_mem_eq s.patternCopy_mem, s.patternCopy_moved, s.patternCopy_f,
    congrArg pc s.patternCopy_bc.symm⟩

theorem exec_ldpirx_eq (s : State) : exec .ldpirx s = .next (s.patternCopy.goto (s.afterCopy (s.bc - 1))) :=
  congrArg _ (State.repeatUnless_bc s.patternCopy_pc s.patternCopy_bc)

/-! ### LDWS (R764), and the statement -/

/-- The whole of LDWS but its flags. -/
def State.copyWithinPage (s : State) : State :=
  ((s.write s.de (s.read s.hl)).set .l (s.l + 1)).set .d (inc8 s.d s.f.cf).1

theorem exec_ldws_eq (s : State) :
    exec .ldws s = .next ((s.copyWithinPage.setFlags (inc8 s.d s.f.cf).2).advance 2) := rfl

theorem State.copyWithinPage_mem (s : State) : s.copyWithinPage.mem = (s.write s.de (s.read s.hl)).mem := by
  rw [State.copyWithinPage, State.set_mem, State.set_mem]

theorem State.copyWithinPage_get (s : State) (k : Reg8) :
    s.copyWithinPage.get k = if k = .d then (inc8 s.d s.f.cf).1 else if k = .l then s.l + 1 else s.get k := by
  rw [State.copyWithinPage, State.get_set, State.get_set, State.get_write]

theorem increments_ldws {s : State} (hm : s.mem.wf = true) :
    Increments .ldws s s.d fun t v =>
      t.d = v ∧ Landed s t s.de (s.read s.hl) ∧ t.l = s.l + 1 ∧ t.h = s.h ∧ t.e = s.e ∧ t.bc = s.bc := by
  have get := s.copyWithinPage_get
  refine ⟨_, exec_ldws_eq s, _, inc8_toNat s.d s.f.cf, ⟨get .d, ?lands, get .l, get .h, get .e, ?bc⟩,
    inc8_flags s.d s.f.cf⟩
  case lands => exact (State.write_landed hm s.de _).of_mem_eq s.copyWithinPage_mem
  case bc => exact congrArg₂ join (get .b) (get .c)

/-- Settles O50. -/
theorem nextBlockCopies : Obligations.NextBlockCopies := fun s hm =>
  ⟨runs_maskedCopy (fun _ => s.pc + 2) hm (exec_ldix_eq s), runs_maskedCopy (fun _ => s.pc + 2) hm (exec_lddx_eq s),
    runs_maskedCopy s.afterCopy hm (exec_ldirx_eq s), runs_maskedCopy s.afterCopy hm (exec_lddrx_eq s),
    runs_patternCopy s.afterCopy hm (exec_ldpirx_eq s), increments_ldws hm⟩

end Sys2Proof.Machine
end

section
/-! PROOF. LDIR executed to its end (O51), by induction on the count: a pass (O48) leaves a shorter block of the same
kind, and the byte that it has copied lies outside what is still to be written. -/

namespace Sys2Proof.Machine

/-- Without read-only ranges every address is writable (R210). -/
theorem writable_of_rom_nil {cfg : Platform} (h : cfg.rom = []) (x : Word) : writable cfg x = true := by
  rw [writable, h]
  rfl

theorem again_succ {i : Instr} {s u : State} (h : exec i s = .next u) (k : Nat) :
    again i (k + 1) s = again i k u := by
  rw [again, h]

/-- The address one byte further on. -/
theorem add_ofNat_succ (x : Word) (k : Nat) : x + BitVec.ofNat 16 (k + 1) = x + 1 + BitVec.ofNat 16 k := by
  rw [Nat.add_comm, BitVec.ofNat_add, BitVec.add_assoc]
  rfl

theorem runs_ldirPass {s : State} (hm : s.mem.wf = true) (hram : s.cfg.rom = []) : Runs .ldir s (LdirPass s) := by
  obtain ⟨-, -, ⟨u, hu, landed, moved, -, hpc⟩, -⟩ := blockCopies s hm
  refine ⟨u, hu, ((exec_storesOnly .ldir s).holds hu).wf_kept hm, ((exec_keepsBut .ldir s).holds hu) .cfg (by simp),
    fun x => ?read, moved, hpc⟩
  case read => simpa only [writable_of_rom_nil hram, and_true] using landed x

section
variable {n : Nat} {s t u : State}

/-- A pass takes the first byte off both blocks. -/
theorem LdirReady.pass (h : LdirReady (n + 1) s) (p : LdirPass s u) : LdirReady n u := by
  obtain ⟨hl, de, bc⟩ := p.moved
  refine ⟨p.mem_wf, p.cfg ▸ h.ram, ?count, fun j k hj hk => ?apart⟩
  case count =>
    have count := h.count
    rw [bc]
    bv_omega
  case apart =>
    rw [hl, de, ← add_ofNat_succ, ← add_ofNat_succ]
    exact h.apart (j + 1) (k + 1) (Nat.succ_lt_succ hj) (Nat.succ_lt_succ hk)

/-- The first byte copied is not among those the other passes write: the block is shorter than memory. -/
theorem LdirReady.first_ne (h : LdirReady (n + 1) s) {k : Nat} (hk : k < n) :
    s.de ≠ s.de + BitVec.ofNat 16 (k + 1) := by
  have count := h.count
  have size := s.bc.isLt
  bv_omega

/-- The bytes still to be copied are as they were. -/
theorem LdirReady.source_kept (h : LdirReady (n + 1) s) (p : LdirPass s u) {k : Nat} (hk : k < n + 1) :
    u.read (s.hl + BitVec.ofNat 16 k) = s.read (s.hl + BitVec.ofNat 16 k) := by
  have outside : s.hl + BitVec.ofNat 16 k ≠ s.de := by
    simpa using (h.apart 0 k (Nat.succ_pos n) hk).symm
  rw [p.read, if_neg outside]

/-- A pass, and then the copy of what is left. -/
theorem BlockCopied.of_pass (h : LdirReady (n + 1) s) (p : LdirPass s u) (r : BlockCopied n u t) :
    BlockCopied (n + 1) s t := by
  obtain ⟨hl, de, bc⟩ := p.moved
  have last : u.bc = 0 ↔ n = 0 := by
    rw [← (h.pass p).count, BitVec.toNat_eq]
    rfl
  have onward (k : Nat) : s.de + BitVec.ofNat 16 (k + 1) = u.de + BitVec.ofNat 16 k := by rw [add_ofNat_succ, de]
  have firstApart : ∀ k, k < n → s.de ≠ u.de + BitVec.ofNat 16 k := fun k hk => onward k ▸ h.first_ne hk
  refine ⟨r.bc, ?hl, ?de, ?pc, fun k hk => ?copied, fun x hx => ?kept⟩
  case hl => rw [r.hl, hl, ← add_ofNat_succ]
  case de => rw [r.de, ← onward]
  case pc =>
    rw [r.pc, p.pc, if_neg n.succ_ne_zero]
    simp only [last]
    split <;> rfl
  case copied =>
    cases k with
    | zero =>
      rw [BitVec.add_zero, BitVec.add_zero, r.kept _ firstApart, p.read, if_pos rfl]
    | succ k =>
      rw [← h.source_kept p hk, onward, r.copied k (Nat.lt_of_succ_lt_succ hk), hl, ← add_ofNat_succ]
  case kept =>
    have notFirst : x ≠ s.de := by simpa using hx 0 (Nat.succ_pos n)
    rw [r.kept x fun k hk => onward k ▸ hx (k + 1) (Nat.succ_lt_succ hk), p.read, if_neg notFirst]

/-- No pass left: nothing is done. -/
theorem BlockCopied.refl (h : LdirReady 0 s) : BlockCopied 0 s s where
  bc := BitVec.eq_of_toNat_eq h.count
  hl := (BitVec.add_zero s.hl).symm
  de := (BitVec.add_zero s.de).symm
  pc := rfl
  copied := nofun
  kept := fun _ _ => rfl

end

theorem again_ldir {n : Nat} {s : State} (h : LdirReady n s) :
    ∃ t, again .ldir n s = .next t ∧ BlockCopied n s t := by
  induction n generalizing s with
  | zero => exact ⟨s, rfl, .refl h⟩
  | succ n ih =>
    obtain ⟨u, hu, p⟩ := runs_ldirPass h.mem_wf h.ram
    obtain ⟨t, ht, r⟩ := ih (h.pass p)
    exact ⟨t, (again_succ hu n).trans ht, .of_pass h p r⟩

/-- Settles O51. -/
theorem ldirCopiesBlock : Obligations.LdirCopiesBlock := by
  intro s hm hram hbc apart
  obtain ⟨t, ht, r⟩ := again_ldir ⟨hm, hram, rfl, apart⟩
  have size : BitVec.ofNat 16 s.bc.toNat = s.bc := by rw [BitVec.ofNat_toNat, BitVec.setWidth_eq]
  have nonempty : s.bc.toNat ≠ 0 := fun e => hbc (BitVec.eq_of_toNat_eq e)
  refine ⟨t, ht, r.bc, ?hl, ?de, ?pc, r.copied, r.kept⟩
  case hl => rw [r.hl, size]
  case de => rw [r.de, size]
  case pc => rw [r.pc, if_neg nonempty]

end Sys2Proof.Machine
end

section
/-! PROOF. Input and output (O52, O53). An instruction of the family logs one event; a block form then counts `B` down,
which is said once for the four of them and holds whether the program counter moves on or stays. -/

namespace Sys2Proof.Machine

/-! ## IN, OUT and NEXTREG (R800 to R805, R815, R816) -/

theorem runs_event {i : Instr} {s : State} {e : Event} {n : Nat} (h : exec i s = .next ((s.event e).advance n)) :
    Runs i s fun t => t.events = s.events ++ [e] ∧ t.f = s.f :=
  ⟨_, h, State.event_events s e, State.event_f s e⟩

/-- The flags of a byte read from a port are those of a shift that keeps `CF` (R801). -/
theorem State.portFlags_flags (s : State) (v : Byte) :
    FlagsAre (s.portFlags v) v.msb (decide (v = 0)) false (decide (ones v % 2 = 0)) false s.f.cf :=
  (State.setFlags_named s _).trans (shiftFlags_eq v s.f.cf)

theorem State.get_portFlags (s : State) (v : Byte) (k : Reg8) : (s.portFlags v).get k = s.get k :=
  State.get_setFlags s _ k

theorem runs_inAAtN (n : Byte) (s : State) :
    Runs (.inAAtN n) s fun t => t.events = s.events ++ [.portRead (join s.a n) t.a] ∧ t.f = s.f :=
  ⟨_, exec_inAAtN n s, rfl, rfl⟩

/-- The register holds the byte that the event says was read. -/
theorem runs_inRAtC (k : Reg8) (s : State) :
    Runs (.inRAtC k) s fun t =>
      t.events = s.events ++ [.portRead s.bc (t.get k)] ∧
      FlagsAre t (t.get k).msb (decide (t.get k = 0)) false (decide (ones (t.get k) % 2 = 0)) false s.f.cf := by
  refine ⟨_, exec_inRAtC k s, ?_⟩
  dsimp only
  rw [State.get_advance, State.get_portFlags, State.get_set, if_pos rfl]
  exact ⟨rfl, State.portFlags_flags _ _⟩

theorem runs_inAtC (s : State) :
    Runs .inAtC s fun t => ∃ v, t.events = s.events ++ [.portRead s.bc v] ∧
      FlagsAre t v.msb (decide (v = 0)) false (decide (ones v % 2 = 0)) false s.f.cf :=
  ⟨_, exec_inAtC s, s.portAnswer s.bc, rfl, State.portFlags_flags _ _⟩

/-- Settles O52: the three reads, then the forms that only log an event. -/
theorem inputOutput : Obligations.InputOutput := fun s =>
  ⟨fun n => runs_inAAtN n s, fun k => runs_inRAtC k s, runs_inAtC s,
    fun n => runs_event (exec_outAtNA n s), fun k => runs_event (exec_outAtCR k s), runs_event (exec_outAtCZero s),
    fun g n => runs_event (exec_nextregNN g n s), fun g => runs_event (exec_nextregNA g s)⟩

/-! ## The end of a block form (R806) -/

/-- `HL` has moved by `k`, `B` has gone down by 1 and `ZF` says whether it is 0 now. -/
def CountsB (s t : State) (k : Word) : Prop :=
  t.hl = s.hl + k ∧ t.b = s.b - 1 ∧ t.c = s.c ∧ t.f.zf = decide (t.b = 0)

theorem State.countB_counts (s : State) (k : Word) : CountsB s (s.countB k) k :=
  ⟨join_hi_lo _, rfl, rfl, beq_eq_decide _ _⟩

@[simp] theorem State.countB_pc (s : State) (k : Word) : (s.countB k).pc = s.pc := rfl
@[simp] theorem State.countB_mem (s : State) (k : Word) : (s.countB k).mem = s.mem := rfl
@[simp] theorem State.countB_events (s : State) (k : Word) : (s.countB k).events = s.events := rfl
@[simp] theorem State.countB_b (s : State) (k : Word) : (s.countB k).b = s.b - 1 := rfl

/-- Where a repeating form goes on, by the count that its body leaves. -/
def State.afterPort (s : State) (count : Byte) : Word := if count = 0 then s.pc + 2 else s.pc

theorem State.repeatUnless_b {s t : State} (hpc : t.pc = s.pc) (hb : t.b = s.b - 1) :
    t.repeatUnless (t.b == 0) = t.goto (s.afterPort (s.b - 1)) := by
  rw [← hb]
  exact State.repeatUnless_eq_goto hpc beq_iff_eq

/-! ## INI, IND, INIR, INDR (R806 to R809) -/

section
variable (s : State) (k : Word)

theorem State.inputByte_pc : (s.inputByte k).pc = s.pc := by
  rw [State.inputByte, State.countB_pc, State.write_pc, State.portRead_pc]

theorem State.inputByte_b : (s.inputByte k).b = s.b - 1 := by
  rw [State.inputByte, State.countB_b, State.write_b, State.portRead_b]

theorem State.inputByte_counts : CountsB s (s.inputByte k) k := State.countB_counts _ k

theorem State.inputByte_events :
    (s.inputByte k).events = s.events ++ [.portRead s.bc (s.portAnswer s.bc)] := by
  rw [State.inputByte, State.countB_events, State.write_events, State.portRead_events]

/-- Reading the port leaves memory as it was for the store. -/
theorem State.inputByte_landed (hm : s.mem.wf = true) :
    Landed s (s.inputByte k) s.hl (s.portAnswer s.bc) :=
  have stored : Landed s ((s.portRead s.bc).write s.hl (s.portAnswer s.bc)) s.hl (s.portAnswer s.bc) :=
    State.write_landed (s := s.portRead s.bc) hm s.hl _
  stored.of_mem_eq (State.countB_mem _ k)

end

theorem runs_inputByte {i : Instr} {s : State} {k : Word} (pc : Byte → Word) (hm : s.mem.wf = true)
    (h : exec i s = .next ((s.inputByte k).goto (pc (s.b - 1)))) :
    Runs i s fun t => CountsB s t k ∧ t.pc = pc t.b ∧
      ∃ v, t.events = s.events ++ [.portRead s.bc v] ∧ Landed s t s.hl v :=
  ⟨_, h, s.inputByte_counts k, congrArg pc (s.inputByte_b k).symm, _, s.inputByte_events k, s.inputByte_landed k hm⟩

theorem exec_ini_eq (s : State) : exec .ini s = .next ((s.inputByte 1).goto (s.pc + 2)) := by
  rw [exec_ini, execIni, State.advance_two (s.inputByte_pc 1)]

theorem exec_ind_eq (s : State) : exec .ind s = .next ((s.inputByte (-1)).goto (s.pc + 2)) := by
  rw [exec_ind, execInd, State.advance_two (s.inputByte_pc (-1))]

theorem exec_inir_eq (s : State) : exec .inir s = .next ((s.inputByte 1).goto (s.afterPort (s.b - 1))) :=
  congrArg _ (State.repeatUnless_b (s.inputByte_pc 1) (s.inputByte_b 1))

theorem exec_indr_eq (s : State) : exec .indr s = .next ((s.inputByte (-1)).goto (s.afterPort (s.b - 1))) :=
  congrArg _ (State.repeatUnless_b (s.inputByte_pc (-1)) (s.inputByte_b (-1)))

/-! ## OUTI, OUTD, OTIR, OTDR (R810 to R813) -/

section
variable (s : State) (k : Word)

theorem State.outputByte_pc : (s.outputByte k).pc = s.pc := by
  rw [State.outputByte, State.countB_pc, State.portWrite_pc]

theorem State.outputByte_b : (s.outputByte k).b = s.b - 1 := by
  rw [State.outputByte, State.countB_b, State.portWrite_b]

theorem State.outputByte_mem : (s.outputByte k).mem = s.mem := by
  rw [State.outputByte, State.countB_mem, State.portWrite_mem]

theorem State.outputByte_counts : CountsB s (s.outputByte k) k := State.countB_counts _ k

theorem State.outputByte_events :
    (s.outputByte k).events = s.events ++ [.portWrite s.outputPort (s.read s.hl)] := by
  rw [State.outputByte, State.countB_events, State.portWrite_events]

end

theorem runs_outputByte {i : Instr} {s : State} {k : Word} (pc : Byte → Word)
    (h : exec i s = .next ((s.outputByte k).goto (pc (s.b - 1)))) :
    Runs i s fun t => CountsB s t k ∧ t.pc = pc t.b ∧ t.mem = s.mem ∧
      t.events = s.events ++ [.portWrite s.outputPort (s.read s.hl)] :=
  ⟨_, h, s.outputByte_counts k, congrArg pc (s.outputByte_b k).symm, s.outputByte_mem k, s.outputByte_events k⟩

theorem exec_outi_eq (s : State) : exec .outi s = .next ((s.outputByte 1).goto (s.pc + 2)) := by
  rw [exec_outi, execOuti, State.advance_two (s.outputByte_pc 1)]

theorem exec_outd_eq (s : State) : exec .outd s = .next ((s.outputByte (-1)).goto (s.pc + 2)) := by
  rw [exec_outd, execOutd, State.advance_two (s.outputByte_pc (-1))]

theorem exec_otir_eq (s : State) : exec .otir s = .next ((s.outputByte 1).goto (s.afterPort (s.b - 1))) :=
  congrArg _ (State.repeatUnless_b (s.outputByte_pc 1) (s.outputByte_b 1))

theorem exec_otdr_eq (s : State) : exec .otdr s = .next ((s.outputByte (-1)).goto (s.afterPort (s.b - 1))) :=
  congrArg _ (State.repeatUnless_b (s.outputByte_pc (-1)) (s.outputByte_b (-1)))

/-! ## OUTINB (R814), and the statement -/

theorem runs_outinb (s : State) :
    Runs .outinb s fun t =>
      t.hl = s.hl + 1 ∧ t.bc = s.bc ∧ t.mem = s.mem ∧ t.pc = s.pc + 2 ∧
      t.events = s.events ++ [.portWrite s.bc (s.read s.hl)] :=
  ⟨_, exec_outinb s, State.hl_setHL (s.portWrite s.bc (s.read s.hl)) _, rfl, rfl, rfl, rfl⟩

/-- Settles O53: the input forms, the output forms with `outputPort` as the port of the statement, then OUTINB. -/
theorem blockInputOutput : Obligations.BlockInputOutput := fun s hm =>
  ⟨runs_inputByte (fun _ => s.pc + 2) hm (exec_ini_eq s), runs_inputByte (fun _ => s.pc + 2) hm (exec_ind_eq s),
    runs_inputByte s.afterPort hm (exec_inir_eq s), runs_inputByte s.afterPort hm (exec_indr_eq s),
    runs_outputByte (fun _ => s.pc + 2) (exec_outi_eq s), runs_outputByte (fun _ => s.pc + 2) (exec_outd_eq s),
    runs_outputByte s.afterPort (exec_otir_eq s), runs_outputByte s.afterPort (exec_otdr_eq s), runs_outinb s⟩

end Sys2Proof.Machine
end

section
/-! PROOF. Pixel addresses (O44): a masked field of a word in arithmetic, the two address operations of the model as
sums of such fields, and then one line down the layout. -/

namespace Sys2Proof.Machine

set_option Elab.async false

/-! ## Fields of a word -/

/-- A mask of `n` ones from bit `k` up leaves the field there in its place. -/
theorem and_field_eq (x n k : Nat) : x &&& ((2 ^ n - 1) <<< k) = x / 2 ^ k % 2 ^ n * 2 ^ k := by
  have moved : x &&& ((2 ^ n - 1) <<< k) = (x >>> k &&& (2 ^ n - 1)) <<< k := by
    refine Nat.eq_of_testBit_eq fun j => ?_
    by_cases hj : k ≤ j <;> simp [hj, Bool.and_comm]
  rw [moved, Nat.and_two_pow_sub_one_eq_mod, Nat.shiftRight_eq_div_pow, Nat.shiftLeft_eq]

/-- Clearing the bits of a mask takes away what the mask leaves. -/
theorem and_not_eq_sub {w : Nat} (x m : BitVec w) : x &&& ~~~m = x - (x &&& m) := by
  have apart : (x &&& ~~~m) &&& (x &&& m) = 0#w := by
    ext k
    cases hm : m[k] <;> simp [hm]
  have whole : (x &&& ~~~m) ||| (x &&& m) = x := by
    ext k
    cases hm : m[k] <;> simp [hm]
  rw [eq_sub_iff_add_eq, BitVec.add_eq_or_of_and_eq_zero _ _ apart, whole]

/-- Where one word ends in `k` zeros and the other is below `2 ^ k`, `|||` is the sum. -/
theorem or_toNat_add {w k : Nat} {x y : BitVec w} (hx : 2 ^ k ∣ x.toNat) (hy : y.toNat < 2 ^ k) :
    (x ||| y).toNat = x.toNat + y.toNat := by
  obtain ⟨upper, hx⟩ := hx
  rw [BitVec.toNat_or, hx, Nat.two_pow_add_eq_or_of_lt hy]

/-- A field of a byte, moved up into an address that has room for it. -/
theorem zext16_shiftLeft_toNat (v : Byte) {k : Nat} (hk : k ≤ 8) : (zext16 v <<< k).toNat = v.toNat * 2 ^ k := by
  have fits : v.toNat * 2 ^ k < 2 ^ 16 :=
    (Nat.mul_le_mul_left v.toNat (Nat.pow_le_pow_right (by decide) hk)).trans_lt
      (Nat.mul_lt_mul_of_pos_right v.isLt (by decide))
  rw [BitVec.toNat_shiftLeft, zext16_toNat, Nat.shiftLeft_eq, Nat.mod_eq_of_lt fits]

/-! ## PIXELAD (R880) -/

/-- How far above `$4000` line `y` begins: its third of the screen, its line within the row, its row in the third. -/
def lineOffset (y : Nat) : Nat := y / 64 * 2048 + y % 8 * 256 + y / 8 % 8 * 32

theorem lineOffset_eq (third : Nat) {row line : Nat} (hRow : row < 8) (hLine : line < 8) :
    lineOffset (third * 64 + row * 8 + line) = third * 2048 + line * 256 + row * 32 := by
  unfold lineOffset
  omega

theorem pixelThird_toNat (y : Byte) : (zext16 (y &&& 0xC0) <<< 5).toNat = y.toNat / 64 * 2048 := by
  have hy := y.isLt
  have masked : (y &&& 0xC0).toNat = y.toNat / 64 % 4 * 64 := and_field_eq y.toNat 2 6
  rw [zext16_shiftLeft_toNat _ (by decide), masked]
  omega

theorem pixelLine_toNat (y : Byte) : (zext16 (y &&& 0x07) <<< 8).toNat = y.toNat % 8 * 256 :=
  (zext16_shiftLeft_toNat _ (by decide)).trans (congrArg (· * 256) (and_07_toNat y))

theorem pixelRow_toNat (y : Byte) : (zext16 (y &&& 0x38) <<< 2).toNat = y.toNat / 8 % 8 * 32 := by
  have masked : (y &&& 0x38).toNat = y.toNat / 8 % 8 * 8 := and_field_eq y.toNat 3 3
  rw [zext16_shiftLeft_toNat _ (by decide), masked]
  omega

theorem pixelColumn_toNat (x : Byte) : (zext16 (x >>> 3)).toNat = x.toNat / 8 :=
  (zext16_toNat _).trans (shiftRight_toNat x 3)

/-- The fields stand side by side, each in the zeros that those above it end in. -/
theorem pixelAddress_toNat (x y : Byte) :
    (pixelAddress x y).toNat = 0x4000 + lineOffset y.toNat + x.toNat / 8 := by
  have hx := x.isLt
  have hy := y.isLt
  have third := pixelThird_toNat y
  have line := pixelLine_toNat y
  have row := pixelRow_toNat y
  have column := pixelColumn_toNat x
  have screen : ((0x4000 : Nat) : Word).toNat = 0x4000 := rfl
  have upToThird :=
    or_toNat_add (k := 14) (x := ((0x4000 : Nat) : Word)) (y := zext16 (y &&& 0xC0) <<< 5) (by omega) (by omega)
  have upToLine := or_toNat_add (k := 11) (y := zext16 (y &&& 0x07) <<< 8) (by rw [upToThird]; omega) (by omega)
  have upToRow := or_toNat_add (k := 8) (y := zext16 (y &&& 0x38) <<< 2) (by rw [upToLine]; omega) (by omega)
  have upToColumn := or_toNat_add (k := 5) (y := zext16 (x >>> 3)) (by rw [upToRow]; omega) (by omega)
  rw [pixelAddress, upToColumn, upToRow, upToLine, upToThird, lineOffset]
  omega

/-! ## PIXELDN (R881) -/

/-- The line within its row of characters: bits 10 to 8 of the address. -/
theorem and_0700_toNat (a : Word) : (a &&& 0x0700).toNat = a.toNat / 256 % 8 * 256 := and_field_eq a.toNat 3 8

/-- The row of characters within its third of the screen: bits 7 to 5 of the address. -/
theorem and_00E0_toNat (a : Word) : (a &&& 0x00E0).toNat = a.toNat / 32 % 8 * 32 := and_field_eq a.toNat 3 5

theorem and_0700_eq_iff (a : Word) : a &&& 0x0700 = 0x0700 ↔ a.toNat / 256 % 8 = 7 := by
  rw [← BitVec.toNat_inj, and_0700_toNat]
  exact Nat.mul_left_inj (a := 256) (c := 7) (by decide)

theorem and_00E0_eq_iff (a : Word) : a &&& 0x00E0 = 0x00E0 ↔ a.toNat / 32 % 8 = 7 := by
  rw [← BitVec.toNat_inj, and_00E0_toNat]
  exact Nat.mul_left_inj (a := 32) (c := 7) (by decide)

/-- Clearing the line, where it is the last one. -/
theorem and_F8FF_eq {a : Word} (line : a &&& 0x0700 = 0x0700) : a &&& 0xF8FF = a - 0x0700 :=
  (and_not_eq_sub a 0x0700).trans (by rw [line])

/-- Clearing line and row, where both are the last ones. -/
theorem and_F81F_eq {a : Word} (line : a &&& 0x0700 = 0x0700) (row : a &&& 0x00E0 = 0x00E0) :
    a &&& 0xF81F = a - 0x07E0 := by
  have both : a &&& (0x0700 ||| 0x00E0) = 0x07E0 := by rw [BitVec.and_or_distrib_left, line, row]; rfl
  exact (and_not_eq_sub a (0x0700 ||| 0x00E0)).trans (by rw [both])

/-- The three cases of R881. -/
theorem pixelBelow_toNat (a : Word) :
    (pixelBelow a).toNat =
      (if a.toNat / 256 % 8 ≠ 7 then a.toNat + 256
       else if a.toNat / 32 % 8 ≠ 7 then a.toNat - 7 * 256 + 32
       else a.toNat - 7 * 256 - 7 * 32 + 2048) % 65536 := by
  unfold pixelBelow
  by_cases line : a &&& 0x0700 = 0x0700
  case neg =>
    rw [if_pos line, if_pos (mt (and_0700_eq_iff a).2 line)]
    exact BitVec.toNat_add a 0x0100
  case pos =>
    have line' := (and_0700_eq_iff a).1 line
    rw [if_neg (not_not_intro line), if_neg (not_not_intro line')]
    by_cases row : a &&& 0x00E0 = 0x00E0
    case neg =>
      rw [if_pos row, if_pos (mt (and_00E0_eq_iff a).2 row), and_F8FF_eq line]
      bv_omega
    case pos =>
      have row' := (and_00E0_eq_iff a).1 row
      rw [if_neg (not_not_intro row), if_neg (not_not_intro row'), and_F81F_eq line row]
      bv_omega

/-- The parts of an address of the layout are what R881 looks at. -/
theorem layout_parts (third : Nat) {row line column : Nat} (hRow : row < 8) (hLine : line < 8)
    (hColumn : column < 32) :
    (0x4000 + (third * 2048 + line * 256 + row * 32) + column) / 256 % 8 = line ∧
      (0x4000 + (third * 2048 + line * 256 + row * 32) + column) / 32 % 8 = row := by
  omega

/-- On those parts the three cases are: down in the same row, to the next row of the same third, to the next third. -/
theorem layout_below {third row line column : Nat} (hThird : third < 3) (hRow : row < 8) (hLine : line < 8)
    (hColumn : column < 32) :
    let a := 0x4000 + (third * 2048 + line * 256 + row * 32) + column
    (if line ≠ 7 then a + 256 else if row ≠ 7 then a - 7 * 256 + 32 else a - 7 * 256 - 7 * 32 + 2048) % 65536 =
      0x4000 + lineOffset (third * 64 + row * 8 + line + 1) + column := by
  intro a
  by_cases lastLine : line = 7
  · by_cases lastRow : row = 7
    · have next : third * 64 + row * 8 + line + 1 = (third + 1) * 64 + 0 * 8 + 0 := by omega
      rw [if_neg (not_not_intro lastLine), if_neg (not_not_intro lastRow), next,
        lineOffset_eq _ (by decide) (by decide)]
      omega
    · have next : third * 64 + row * 8 + line + 1 = third * 64 + (row + 1) * 8 + 0 := by omega
      rw [if_neg (not_not_intro lastLine), if_pos lastRow, next, lineOffset_eq _ (by omega) (by decide)]
      omega
  · have next : third * 64 + row * 8 + line + 1 = third * 64 + row * 8 + (line + 1) := Nat.add_assoc _ line 1
    rw [if_pos lastLine, next, lineOffset_eq _ hRow (by omega)]
    omega

/-- Where there is a line below on the screen, PIXELDN finds it in the same column. -/
theorem pixelBelow_pixelAddress (x : Byte) {y : Byte} (hy : y.toNat < 191) :
    pixelBelow (pixelAddress x y) = pixelAddress x (y + 1) := by
  obtain ⟨third, row, line, hThird, hRow, hLine, parts⟩ :
      ∃ third row line, third < 3 ∧ row < 8 ∧ line < 8 ∧ y.toNat = third * 64 + row * 8 + line :=
    ⟨y.toNat / 64, y.toNat / 8 % 8, y.toNat % 8, by omega, by omega, by omega, by omega⟩
  have hColumn : x.toNat / 8 < 32 := Nat.div_lt_of_lt_mul x.isLt
  have next : (y + 1).toNat = third * 64 + row * 8 + line + 1 := by rw [← parts]; bv_omega
  have here := pixelAddress_toNat x y
  rw [parts, lineOffset_eq third hRow hLine] at here
  obtain ⟨lineOf, rowOf⟩ := layout_parts third hRow hLine hColumn
  apply BitVec.eq_of_toNat_eq
  rw [pixelBelow_toNat, here, lineOf, rowOf, pixelAddress_toNat, next]
  exact layout_below hThird hRow hLine hColumn

/-! ## The instructions -/

theorem runs_setHL {i : Instr} {s : State} {v : Word} {n : Nat} (h : exec i s = .next ((s.setHL v).advance n)) :
    Runs i s fun t => t.hl = v :=
  ⟨_, h, State.hl_setHL s v⟩

theorem runs_pixelad (s : State) : Runs .pixelad s fun t => t.hl = pixelAddress s.e s.d := runs_setHL (exec_pixelad s)

theorem runs_pixeldn (s : State) : Runs .pixeldn s fun t => t.hl = pixelBelow s.hl := runs_setHL (exec_pixeldn s)

/-- Settles O44: PIXELAD and PIXELDN write into HL what the two address operations give. -/
theorem pixelAddresses : Obligations.PixelAddresses := by
  refine ⟨fun s => ?layout, fun s onScreen => ?below, fun s => ?anyHL⟩
  case layout =>
    obtain ⟨t, ht, hl⟩ := runs_pixelad s
    have address : t.hl.toNat = 0x4000 + lineOffset s.d.toNat + s.e.toNat / 8 := by rw [hl, pixelAddress_toNat]
    refine ⟨t, ht, address.trans ?_⟩
    simp only [lineOffset, Nat.add_assoc]
  case below =>
    obtain ⟨t, ht, here⟩ := runs_pixelad s
    obtain ⟨u, hu, down⟩ := runs_pixeldn t
    obtain ⟨v, hv, below⟩ := runs_pixelad { s with d := s.d + 1 }
    have found : u.hl = pixelAddress s.e (s.d + 1) := by rw [down, here, pixelBelow_pixelAddress s.e onScreen]
    exact ⟨t, ht, u, hu, v, hv, found.trans below.symm⟩
  case anyHL =>
    obtain ⟨t, ht, hl⟩ := runs_pixeldn s
    exact ⟨t, ht, (congrArg BitVec.toNat hl).trans (pixelBelow_toNat s.hl)⟩

end Sys2Proof.Machine
end

section
/-! PROOF. The boundary and one step (O2, O3, O58), CPU control (O54) and what EI and DI leave to the step after them
(O59, O60): one lemma per outcome of the boundary, each the whole step. -/

namespace Sys2Proof.Machine

set_option Elab.async false

/-! ## What a boundary leads to (R902, R907) -/

section
variable {s : State}

theorem step_of_reset (h : s.asserted.reset = true) : step s = .next s.sampled.acceptReset :=
  step_event (if_pos h)

theorem step_of_nmi (noReset : s.asserted.reset = false) (h : s.asserted.nmi = true) :
    step s = .next s.sampled.acceptNmi :=
  step_event (by simp only [State.boundary, noReset, h, Bool.false_eq_true, if_false, if_true])

theorem step_of_int (noReset : s.asserted.reset = false) (noNmi : s.asserted.nmi = false)
    (h : (s.asserted.int && s.iff1 && !s.intInhibit) = true) : step s = s.sampled.acceptInt s.asserted.bus :=
  step_event (by simp only [State.boundary, noReset, noNmi, h, Bool.false_eq_true, if_false, if_true])

theorem step_of_halted (noReset : s.asserted.reset = false) (noNmi : s.asserted.nmi = false)
    (masked : (s.asserted.int && s.iff1 && !s.intInhibit) = false) (h : s.halted = true) :
    step s = .next s.sampled :=
  step_event (by simp only [State.boundary, noReset, noNmi, masked, h, Bool.false_eq_true, if_false, if_true])

theorem step_of_fetches {i : Instr} (fetches : Fetches s) (decoded : decode s.fetch = .instr i) :
    step s = finishing s.diPending (exec i s.begin) :=
  step_instr ((State.boundary_eq_none s).2 fetches) decoded

/-- The instruction's outcome, with the end that a delayed DI gives it (R852). -/
theorem step_of_exec {i : Instr} {t : State} (fetches : Fetches s) (decoded : decode s.fetch = .instr i)
    (executed : exec i s.begin = .next t) : step s = .next (t.finish s.diPending) := by
  rw [step_of_fetches fetches decoded, executed]
  rfl

end

/-- Where no DI was pending, an instruction ends as it leaves the state. -/
theorem State.finish_false (s : State) : s.finish false = s := by
  simp only [State.finish, Bool.not_false, Bool.and_true]

theorem step_of_exec_settled {s t : State} {i : Instr} (fetches : Fetches s) (decoded : decode s.fetch = .instr i)
    (settled : s.diPending = false) (executed : exec i s.begin = .next t) : step s = .next t := by
  rw [step_of_exec fetches decoded executed, settled, State.finish_false]

/-- Settles O2. -/
theorem resetTaken : Obligations.ResetTaken :=
  fun _ asserted => ⟨_, step_of_reset asserted, rfl, rfl, rfl, rfl, rfl, rfl, rfl, rfl, rfl⟩

/-- Settles O3: the state that the statement names is `s.begin`. -/
theorem stepRunsDecoded : Obligations.StepRunsDecoded :=
  fun _ _ fetches decoded => ⟨step_of_fetches fetches decoded, fun _ => step_of_exec fetches decoded⟩

/-- Settles O58. -/
theorem haltStays : Obligations.HaltStays :=
  fun _ halted noReset noNmi masked => step_of_halted noReset noNmi masked halted

/-! ## CPU control (R850 to R854) -/

theorem exec_di_at_once {s : State} (h : s.cfg.diDelay = false) :
    exec .di s = .next { s with iff1 := false, iff2 := false, pc := s.pc + 1 } := by
  have cleared : s.disable = { s with iff1 := false, iff2 := false } := if_neg (ne_true_of_eq_false h)
  rw [exec_di, execDi, cleared]
  rfl

theorem exec_di_delayed {s : State} (h : s.cfg.diDelay = true) :
    exec .di s = .next { s with diPending := true, pc := s.pc + 1 } := by
  have pending : s.disable = { s with diPending := true } := if_pos h
  rw [exec_di, execDi, pending]
  rfl

/-- Settles O54: but for DI, each is its definition. -/
theorem cpuControl : Obligations.CpuControl := fun s =>
  ⟨exec_nop s, exec_halt s, exec_di_at_once, exec_di_delayed, exec_ei s, exec_im0 s, exec_im1 s, exec_im2 s⟩

/-! ## The hold after EI (R853) -/

@[simp] theorem intInhibit_ne_regPlace (k : Reg8) : Place.intInhibit ≠ regPlace k := by cases k <;> decide

@[simp] theorem intInhibit_notMem_pairPlaces (q : Pair) : Place.intInhibit ∉ pairPlaces q := by cases q <;> decide

@[simp] theorem intInhibit_notMem_pairAFPlaces (q : PairAF) : Place.intInhibit ∉ pairAFPlaces q := by
  cases q <;> decide

@[simp] theorem intInhibit_notMem_flags : Place.intInhibit ∉ Place.flags := by decide

@[simp] theorem intInhibit_notMem_flagsButCF : Place.intInhibit ∉ Place.flagsButCF := by decide

@[simp] theorem intInhibit_notMem_io : Place.intInhibit ∉ Place.io := by decide

/-- EI alone lists `int_inhibit` among what it touches. -/
theorem intInhibit_untouched {i : Instr} (h : i ≠ .ei) : .intInhibit ∉ touched i := by
  cases i with
  | ei => exact absurd rfl h
  | _ => as_aux_lemma => simp

/-- The hold of the instruction before ends with any instruction but EI. -/
theorem step_intInhibit {i : Instr} {t u : State} (fetches : Fetches t) (decoded : decode t.fetch = .instr i)
    (notEi : i ≠ .ei) (h : step t = .next u) : u.intInhibit = false := by
  obtain ⟨v, executed, kept⟩ := exec_keepsBut i t.begin
  obtain rfl : v.finish t.diPending = u :=
    Host.Outcome.next.inj ((step_of_exec fetches decoded executed).symm.trans h)
  exact kept .intInhibit (intInhibit_untouched notEi)

/-- What a step that runs EI leaves: an INT is held off at the next boundary. -/
theorem fetches_of_inhibited {t : State} (noReset : t.asserted.reset = false) (noNmi : t.asserted.nmi = false)
    (running : t.halted = false) (inhibited : t.intInhibit = true) : Fetches t :=
  ⟨noReset, noNmi, by rw [inhibited, Bool.not_true, Bool.and_false], running⟩

/-- Settles O59: EI leaves `int_inhibit` set, so that the next boundary fetches, and what runs there clears it unless it
is EI. -/
theorem enableDelay : Obligations.EnableDelay := by
  intro s fetches decoded settled
  have enabled := step_of_exec_settled fetches decoded settled (exec_ei s.begin)
  obtain ⟨-, -, -, running⟩ := fetches
  refine ⟨_, enabled, rfl, rfl, fun noReset noNmi => ?_⟩
  have fetchesNext := fetches_of_inhibited noReset noNmi running rfl
  exact ⟨fetchesNext, fun _ _ decodedNext notEi => step_intInhibit fetchesNext decodedNext notEi⟩

/-! ## The delay of DI (R852) -/

/-- Settles O60: a pending DI clears the flip-flops whatever the instruction has written to them (log 11). -/
theorem disableDelay : Obligations.DisableDelay := by
  intro s fetches
  refine ⟨fun decoded delayed settled => ?sets, fun i decoded pending => ?acts⟩
  case sets =>
    exact ⟨_, step_of_exec_settled fetches decoded settled (exec_di_delayed (s := s.begin) delayed), rfl, rfl, rfl⟩
  case acts =>
    obtain ⟨t, executed, -⟩ := exec_envExtends i s.begin
    have stepped := step_of_exec fetches decoded executed
    rw [pending] at stepped
    exact ⟨_, stepped, Bool.and_false t.iff1, Bool.and_false t.iff2⟩

end Sys2Proof.Machine
end

section
/-! PROOF. Interrupts (O55, O56, O57): each enters its handler with the stack's rule for a push, and RETN leaves by the
same stack. -/

namespace Sys2Proof.Machine

set_option Elab.async false

/-! ## The response of each mode (R904, R905, R906) -/

section
variable {s : State} {bus : Byte}

theorem acceptInt_im0 (mode : s.im = .im0) (rst : bus &&& 0xC7 = 0xC7) :
    s.acceptInt bus = .next (s.acknowledged.enter s.pc (zext16 (bus &&& 0x38))) := by
  simp only [State.acceptInt, State.acknowledged_im, mode, isRst, rst, beq_self_eq_true, if_true,
    State.acknowledged_pc]

theorem acceptInt_im0_refused (mode : s.im = .im0) (notRst : bus &&& 0xC7 ≠ 0xC7) :
    s.acceptInt bus = .refused (.mode0BusByte bus) := by
  simp only [State.acceptInt, State.acknowledged_im, mode, isRst, beq_eq_false_iff_ne.2 notRst, Bool.false_eq_true,
    if_false]

theorem acceptInt_im1 (mode : s.im = .im1) : s.acceptInt bus = .next (s.acknowledged.enter s.pc 0x0038) := by
  simp only [State.acceptInt, State.acknowledged_im, mode, State.acknowledged_pc]

/-- The vector is read after the push. -/
theorem acceptInt_im2 (mode : s.im = .im2) :
    s.acceptInt bus =
      .next (s.acknowledged.enter s.pc ((s.acknowledged.push s.pc).read16 (join s.i bus))) := by
  simp only [State.acceptInt, State.acknowledged_im, mode, State.acknowledged_pc, State.acknowledged_i]
  rfl

end

/-- The address that an RST opcode on the bus holds in bits 5 to 3 (R904, R713). -/
theorem rstOnBus_eq (bus : Byte) : zext16 (bus &&& 0x38) = BitVec.ofNat 16 (8 * (bus.toNat / 8 % 8)) := by
  have masked : (bus &&& 0x38).toNat = bus.toNat / 8 % 8 * 8 := and_field_eq bus.toNat 3 3
  apply BitVec.eq_of_toNat_eq
  rw [zext16_toNat, masked, BitVec.toNat_ofNat]
  omega

/-- Whatever the handler's address, an INT is acknowledged by entering it (R903). -/
theorem enter_acknowledges {s : State} (hm : s.mem.wf = true) (target : Word) :
    Acknowledges s (s.sampled.acknowledged.enter s.pc target) := by
  rw [State.enter_eq]
  exact ⟨State.push_pushed (s := s.sampled.acknowledged) hm s.pc, rfl⟩

/-- Settles O55: the response of each mode is an entry, but for a bus byte that mode 0 refuses. -/
theorem interruptTaken : Obligations.InterruptTaken := by
  intro s bus hm asserted enabled notHeld
  have taken : step s = s.sampled.acceptInt bus := by
    have accepted := step_of_int (s := s) (by rw [asserted]) (by rw [asserted]) (by simp [asserted, enabled, notHeld])
    rwa [asserted] at accepted
  refine ⟨fun mode rst => ?im0, fun mode notRst => ?refused, fun mode => ?im1, fun mode => ?im2⟩
  case im0 => exact ⟨_, taken.trans (acceptInt_im0 mode rst), enter_acknowledges hm _, rstOnBus_eq bus⟩
  case refused => exact taken.trans (acceptInt_im0_refused mode notRst)
  case im1 => exact ⟨_, taken.trans (acceptInt_im1 mode), enter_acknowledges hm _, rfl⟩
  case im2 => exact ⟨_, taken.trans (acceptInt_im2 mode), enter_acknowledges hm _, rfl⟩

/-! ## NMI and RETN (R908, R856) -/

/-- Settles O56: `IFF2` is masked by the pending DI that the NMI takes away. -/
theorem nmiTaken : Obligations.NmiTaken := by
  intro s hm noReset nmi
  have masked : (s.sampled.iff2 && !s.sampled.diPending) = if s.diPending then false else s.iff2 := by
    rw [State.sampled_iff2, State.sampled_diPending]
    cases s.diPending
    · exact Bool.and_true s.iff2
    · exact Bool.and_false s.iff2
  refine ⟨_, step_of_nmi noReset nmi, State.push_pushed (s := s) hm s.pc, ?_⟩
  rw [State.acceptNmi, State.enter_eq, masked]
  rfl

/-- The NMI leaves the old program counter on top, where both bytes can be written. -/
theorem State.acceptNmi_top {s : State} (hm : s.mem.wf = true) (hHigh : writable s.cfg (s.sp - 1) = true)
    (hLow : writable s.cfg (s.sp - 2) = true) : s.acceptNmi.top = s.pc :=
  State.top_enter hm s.pc 0x0066 hHigh hLow

theorem State.acceptNmi_sp (s : State) : s.acceptNmi.sp = s.sp - 2 := rfl

theorem State.acceptNmi_iff2 (s : State) : s.acceptNmi.iff2 = (s.iff2 && !s.diPending) := rfl

theorem runs_retn (s : State) :
    Runs .retn s fun t => t.pc = s.top ∧ t.sp = s.sp + 2 ∧ t.iff1 = s.iff2 ∧ t.iff2 = s.iff2 :=
  ⟨_, exec_retn s, rfl, rfl, rfl, rfl⟩

/-- Settles O57: RETN pops what the NMI left on top, and takes `IFF1` from the `IFF2` that the NMI kept. -/
theorem nmiThenReturn : Obligations.NmiThenReturn := by
  intro s hm noReset nmi settled together hHigh hLow
  obtain ⟨u, hu, pc, sp, iff1, iff2⟩ := runs_retn s.sampled.acceptNmi
  have kept : s.sampled.acceptNmi.iff2 = s.iff2 := by
    rw [State.acceptNmi_iff2, State.sampled_iff2, State.sampled_diPending, settled, Bool.not_false, Bool.and_true]
  refine ⟨_, step_of_nmi noReset nmi, u, hu, ?pc, ?sp, ?iff1, iff2.trans kept⟩
  case pc => exact pc.trans (State.acceptNmi_top (s := s.sampled) hm hHigh hLow)
  case sp => rw [sp, State.acceptNmi_sp, State.sampled_sp, BitVec.sub_add_cancel]
  case iff1 => exact (iff1.trans kept).trans together.symm

end Sys2Proof.Machine
end

section
/-! PROOF. Every instruction completes (O13). That it does is known from the environment rules (O10); where it goes on
is said by the program counter of the outcome, the instruction's own length away unless it transfers or repeats. -/

namespace Sys2Proof.Machine

set_option Elab.async false

/-! ## Updates that leave `PC` -/

theorem State.setPair_pc (s : State) (q : Pair) (v : Word) : (s.setPair q v).pc = s.pc := by cases q <;> rfl

theorem State.setPairAF_pc (s : State) (q : PairAF) (v : Word) : (s.setPairAF q v).pc = s.pc := by cases q <;> rfl

/-- DI leaves `PC`, at once or delayed. -/
theorem State.disable_pc (s : State) : s.disable.pc = s.pc := by
  unfold State.disable
  split
  · rfl
  · rfl

/-! ## The program counter of an outcome -/

/-- The program counter that an outcome leaves, if it is a next state. -/
def pcAfter : Result → Option Word
  | .next t => some t.pc
  | .fault _ => none
  | .refused _ => none

theorem pcAfter_next (t : State) : pcAfter (.next t) = some t.pc := rfl

/-- An update that leaves `PC`, and then past `n` bytes. -/
theorem pcAfter_advance {s t : State} (h : t.pc = s.pc) (n : Nat) : pcAfter (.next (t.advance n)) = some (s.npc n) :=
  congrArg (fun pc => some (pc + BitVec.ofNat 16 n)) h

/-- The named arms transfer control or repeat, or have an update whose own rule says that it leaves `PC`. In every other
arm the update leaves it by definition, and the instruction advances by the length of its encoding. Each of these
unfolds `exec` and `encode`; as lemmas of their own they are checked, and let go, one at a time. -/
theorem pcAfter_exec {i : Instr} (stays : transfers i = false) (s : State) :
    pcAfter (exec i s) = some (s.npc (encode i).length) := by
  cases i with
  | jpNN | jpCondNN | jrE | jrCondE | djnzE | callNN | callCondNN | retCond | rstN | jpAtHL | jpAtIX | jpAtIY | jpAtC
  | ret | reti | retn | ldir | lddr | cpir | cpdr | ldirx | lddrx | ldpirx | inir | indr | otir | otdr => nomatch stays
  | ldRRNN | incRR | decRR | ldRRAtNN => exact pcAfter_advance (s.setPair_pc _ _) _
  | popRR => exact pcAfter_advance (s.popped.setPairAF_pc _ _) 1
  | ldi | ldd => exact pcAfter_advance (s.copyByte_pc _) 2
  | cpi | cpd => exact pcAfter_advance (s.compareByte_pc _) 2
  | ldix | lddx => exact pcAfter_advance (s.maskedCopy_pc _) 2
  | ini | ind => exact pcAfter_advance (s.inputByte_pc _) 2
  | outi | outd => exact pcAfter_advance (s.outputByte_pc _) 2
  | di => exact pcAfter_advance s.disable_pc 1
  | _ => as_aux_lemma => rfl

/-- Settles O13. -/
theorem everyInstructionCompletes : Obligations.EveryInstructionCompletes := by
  intro i s
  obtain ⟨t, ht, -⟩ := exec_envExtends i s
  refine ⟨t, ht, fun stays => Option.some.inj ?_⟩
  rw [← pcAfter_next, ← ht]
  exact pcAfter_exec stays s

end Sys2Proof.Machine
end
